-- ==== Sys2Proof/Word.lean ====
section
/-! DEFINITION. The words of the machine: a byte, a 16-bit word, and a word address of the Vector Processor. -/

namespace Sys2Proof

/-- The 8-bit datum of the CPU, the Bus and the registers A, X, Y, S (00_scope R8, 20_memory R100). -/
abbrev Byte := BitVec 8

/-- A 16-bit word: a CPU address, the program counter (10_state R43), or one word of a vector list (20_memory R107). -/
abbrev Word := BitVec 16

/-- A word address of the Vector Processor's own space of 4096 words (20_memory R107, 10_state R54). -/
abbrev VAddr := BitVec 12

end Sys2Proof
end

