-- ==== Sys2Proof/Machine/Bits.lean ====
section
/-! DEFINITION. The notation of 00_scope R9: the two halves of a word, a word made of two bytes, signed readings. -/

namespace Sys2Proof

/-- `lo(w) = w[7:0]` (00_scope R9). -/
def lo (w : Word) : Byte := w.extractLsb' 0 8

/-- `hi(w) = w[15:8]` (00_scope R9). -/
def hi (w : Word) : Byte := w.extractLsb' 8 8

/-- `w16(l, h) = h * 256 + l` (00_scope R9). -/
def w16 (l h : Byte) : Word := BitVec.ofNat 16 (h.toNat * 256 + l.toNat)

/-- A byte as an unsigned address or addend of 16 bits (30_encoding R164: an index never subtracts). -/
def zext (b : Byte) : Word := b.zeroExtend 16

/-- `s8(b)`, the signed reading of a byte, as a 16-bit addend (00_scope R9, 30_encoding R164). -/
def s8 (b : Byte) : Word := b.signExtend 16

/-- `sext_12(f)`, the signed reading of a 12-bit field (00_scope R9). -/
def sext12 (f : BitVec 12) : Int := f.toInt

end Sys2Proof
end

