-- ==== Sys2Proof/Config.lean ====
section
/-! DEFINITION. The implementation parameters of 00_scope R8. A parameter that the spec leaves OPEN is an opaque
constant: nothing in Lean can evaluate it, so whatever is proved holds for every value of it. -/

namespace Sys2Proof.Config

/-- CPU cycles of one frame (00_scope R8, 60_exceptions R431). -/
def frameCycles : Nat := 25200

/-- CPU cycles between two NMI requests (00_scope R8, 60_exceptions R420). -/
def nmiPeriod : Nat := 6144

/-- The word at which a DMAGO write starts the Vector Processor (00_scope R8, 46_vector_processor R340). -/
def vpStartWord : VAddr := 0

/-- The CPU clock in Hz; informational, no rule reads it (00_scope R8). -/
def cpuClockHz : Nat := 1512000

/-- The length a ROM image must have (00_scope R8, 70_reset_and_hazards R451). -/
def romLength : Nat := 8192

/-- OPEN (00_scope R8, 20_memory R105): the byte that an unmapped read gives. DESIGN CHOICE: opaque; safe
(notes/assumptions/5.md). -/
opaque openBus : Word → Byte

/-- OPEN (00_scope R8, 46_vector_processor R321): the policy applied to a coordinate after every update.
DESIGN CHOICE: opaque; safe (notes/assumptions/6.md). -/
opaque vpCoordPolicy : Int → Int

/-- OPEN (46_vector_processor R342): how many VP cycles above one an instruction costs, from its first word.
DESIGN CHOICE: opaque; safe (notes/assumptions/7.md). -/
opaque vpExtraCycles : Word → Nat

/-- The VP cycles of the instruction whose first word is `w`: open, and at least 1 (46_vector_processor R342). -/
def vpCycles (w : Word) : Nat := vpExtraCycles w + 1

/-- OPEN (00_scope R8, 60_exceptions R430): VP cycles granted per CPU cycle. DESIGN CHOICE: opaque; safe
(notes/assumptions/7.md). -/
opaque vpClockRatio : Nat

end Sys2Proof.Config
end

