-- ==== Sys2Proof/Machine/MemoryMap.lean ====
section
/-! DEFINITION. The memory map of the Bus: a parameter of the machine, as plain data, and the default map of this hardware
(00_scope R8, 20_memory R101, R111). -/

namespace Sys2Proof.Machine

/-- The class of an address and what backs it (20_memory R101, R111). A `ram` index is the one before the page swap. -/
inductive Region where
  | ram (k : Nat)
  | vram (k : Nat)
  | rom (k : Nat)
  | in0 (n : Nat)
  | in1 (n : Nat)
  | dsw (n : Nat)
  | dmago
  | latch
  | watchdog
  | sound
  | unmapped
deriving DecidableEq, Repr

/-- What backs the address `j` above one backed by this (20_memory R111). -/
def Region.plus (r : Region) (j : Nat) : Region :=
  match r with
  | .ram k => .ram (k + j)
  | .vram k => .vram (k + j)
  | .rom k => .rom (k + j)
  | .in0 n => .in0 (n + j)
  | .in1 n => .in1 (n + j)
  | .dsw n => .dsw (n + j)
  | .dmago => .dmago
  | .latch => .latch
  | .watchdog => .watchdog
  | .sound => .sound
  | .unmapped => .unmapped

/-- A row of a memory map: an address range and what backs its first address (20_memory R101). -/
structure MapRow where
  first : Nat
  last : Nat
  region : Region
deriving DecidableEq, Repr

/-- The parameter `memoryMap`: the rows over the addresses whose bit 15 is clear, and the sizes of the two RAMs that back
them (00_scope R8, 20_memory R111, 93_implementation_defined I7). -/
structure MemoryMap where
  rows : List MapRow
  ramSize : Nat
  vramSize : Nat
deriving DecidableEq, Repr

/-- The class of an address whose bit 15 is clear; an address in no row is unmapped (20_memory R101, R111). -/
def MemoryMap.regionAt (m : MemoryMap) (k : Nat) : Region :=
  match m.rows.find? (fun r => decide (r.first ≤ k) && decide (k ≤ r.last)) with
  | some r => r.region.plus (k - r.first)
  | none => .unmapped

/-- The class of a CPU address (20_memory R101, R111, R112). -/
def MemoryMap.classify (m : MemoryMap) (a : Word) : Region := m.regionAt (a.toNat % 0x8000)

/-- The default map, the one of this hardware (20_memory R111), and its RAM sizes (10_state R52). -/
def defaultMemoryMap : MemoryMap where
  rows :=
    [⟨0x0000, 0x01FF, .ram 0x000⟩,
     ⟨0x0200, 0x02FF, .ram 0x200⟩,
     ⟨0x0300, 0x03FF, .ram 0x300⟩,
     ⟨0x2000, 0x2007, .in0 0⟩,
     ⟨0x2400, 0x2407, .in1 0⟩,
     ⟨0x2800, 0x2803, .dsw 0⟩,
     ⟨0x3000, 0x3000, .dmago⟩,
     ⟨0x3200, 0x3200, .latch⟩,
     ⟨0x3400, 0x3400, .watchdog⟩,
     ⟨0x3600, 0x3600, .sound⟩,
     ⟨0x3A00, 0x3A00, .sound⟩,
     ⟨0x3C00, 0x3C07, .sound⟩,
     ⟨0x3E00, 0x3E00, .sound⟩,
     ⟨0x4000, 0x47FF, .vram 0x000⟩,
     ⟨0x5000, 0x57FF, .rom 0x0000⟩,
     ⟨0x6800, 0x7FFF, .rom 0x0800⟩]
  ramSize := 1024
  vramSize := 2048

end Sys2Proof.Machine
end

