-- ==== Sys2Proof/Machine/State.lean ====
section
/-! DEFINITION. The whole state of the CORE as plain data (10_state.md), the reasons a step stops, and the state right
after reset. Each setter below replaces one piece of the state; Laws/State.lean says of each what it leaves alone. -/

namespace Sys2Proof.Machine

/-- What the fault register holds: the address and the byte of the opcode that has no meaning (60_exceptions R400). -/
structure FaultInfo where
  pc : Word
  op : Byte
deriving DecidableEq, Repr

/-- Why the machine stops. -/
inductive Fault where
  /-- Raised by a step of a machine whose fault register is not empty: an opcode of 30_encoding R168 was fetched at `pc`
  and no agent has a step any more (10_state R51, 60_exceptions R400). Safe: the spec stops there. -/
  | decodeFault (pc : Word) (op : Byte)
  /-- Raised by power-on for a ROM image of another length than 8192 (70_reset_and_hazards R451); no machine exists.
  Safe: the spec stops there. -/
  | loadFault (length : Nat)
deriving DecidableEq, Repr

/-- Why an instruction has no meaning here. -/
inductive Refusal where
  /-- Raised by `exec` for an instruction that has no meaning yet. Safe. No arm of `exec` raises it in this model. -/
  | notModelled (mnemonic : String)
deriving DecidableEq, Repr

/-- A backing store of the Bus: the bytes that are not 0, by their offset in the store, in rising order. An offset that
is not listed reads as 0x00 (DESIGN CHOICE, unsafe: notes/assumptions/2.md). -/
structure Memory where
  cells : List Host.Cell
deriving DecidableEq, Repr

/-- The canonical form of a store of `size` bytes: offsets strictly rising, no zero byte listed, every offset inside. -/
abbrev Memory.wf (size : Nat) (m : Memory) : Prop :=
  m.cells.Pairwise (fun p q => p.1 < q.1) ∧ (∀ c ∈ m.cells, c.2 ≠ 0) ∧ (∀ c ∈ m.cells, c.1 < size)

/-- The seven status flags, individually addressable (10_state R44). -/
structure Flags where
  n : Bool
  v : Bool
  b : Bool
  d : Bool
  i : Bool
  z : Bool
  c : Bool
deriving DecidableEq, Repr

/-- The CPU (10_state R40-R51). `cycles` is the model's own: the value that the latest step returned
(70_reset_and_hazards R470; notes/assumptions/16.md). -/
structure CpuState where
  a : Byte
  x : Byte
  y : Byte
  s : Byte
  pc : Word
  p : Flags
  irqPending : Bool
  nmiPending : Bool
  cycleCount : Nat
  fault : Option FaultInfo
  cycles : Nat
deriving DecidableEq, Repr

/-- The host's input snapshot: the named switch lines and the DIP byte (10_state R53). -/
structure Inputs where
  start : Bool
  rotateLeft : Bool
  rotateRight : Bool
  fire : Bool
  thrust : Bool
  hyperspace : Bool
  coin : Bool
  dip : Byte
deriving DecidableEq, Repr

/-- One entry of the output event list: a write to a sound register (10_state R53, 20_memory R115). -/
structure SoundEvent where
  addr : Word
  value : Byte
deriving DecidableEq, Repr

/-- The Bus: its memory map, fixed when it is made (20_memory R101, R111), its backing stores, the output latch, the input
snapshot and the output events (10_state R52, R53). -/
structure BusState where
  map : MemoryMap
  ram : Memory
  vram : Memory
  rom : Memory
  outLatch : Byte
  snapshot : Inputs
  soundEvents : List SoundEvent
deriving DecidableEq, Repr

/-- The return stack of the Vector Processor, `vstack[0..3]` (10_state R54, 46_vector_processor R338). -/
structure VStack where
  e0 : VAddr
  e1 : VAddr
  e2 : VAddr
  e3 : VAddr
deriving DecidableEq, Repr

/-- The Vector Processor (10_state R54). `vsp` counts modulo the stack depth 4. -/
structure VpState where
  vpc : VAddr
  vx : Int
  vy : Int
  vscale : BitVec 4
  vstack : VStack
  vsp : Fin 4
  halted : Bool
deriving DecidableEq, Repr

/-- A `VectorSegment` (46_vector_processor R325). -/
structure Segment where
  x0 : Int
  y0 : Int
  x1 : Int
  y1 : Int
  z : BitVec 4
deriving DecidableEq, Repr

/-- Whose instruction the next step runs (60_exceptions R430: the Vector Processor runs between CPU steps). -/
inductive Turn where
  | cpu
  | vp
deriving DecidableEq, Repr

/-- The Scheduler (10_state R56). The last five fields are the model's own: the local variables of `advance_frame`, which
live across the steps of this model (60_exceptions R430; notes/assumptions/9.md and 11.md). -/
structure SchedState where
  vpCredit : Nat
  frameOvershoot : Nat
  segments : List Segment
  nmiPhase : Nat
  used : Nat
  budget : Nat
  frameOpen : Bool
  turn : Turn
  pendingInputs : List Inputs
deriving DecidableEq, Repr

/-- The whole state of the CORE. -/
structure State where
  cpu : CpuState
  bus : BusState
  vp : VpState
  sched : SchedState
deriving DecidableEq, Repr

/-- Replace the accumulator. -/
def State.setA (s : State) (v : Byte) : State := { s with cpu := { s.cpu with a := v } }

/-- Replace X. -/
def State.setX (s : State) (v : Byte) : State := { s with cpu := { s.cpu with x := v } }

/-- Replace Y. -/
def State.setY (s : State) (v : Byte) : State := { s with cpu := { s.cpu with y := v } }

/-- Replace the stack pointer. -/
def State.setS (s : State) (v : Byte) : State := { s with cpu := { s.cpu with s := v } }

/-- Replace the program counter. -/
def State.setPC (s : State) (w : Word) : State := { s with cpu := { s.cpu with pc := w } }

/-- Replace the flags. -/
def State.setP (s : State) (p : Flags) : State := { s with cpu := { s.cpu with p := p } }

/-- Replace the interrupt line. -/
def State.setIrq (s : State) (b : Bool) : State := { s with cpu := { s.cpu with irqPending := b } }

/-- Replace the NMI request. -/
def State.setNmi (s : State) (b : Bool) : State := { s with cpu := { s.cpu with nmiPending := b } }

/-- Replace the total cycle count. -/
def State.setCycleCount (s : State) (n : Nat) : State := { s with cpu := { s.cpu with cycleCount := n } }

/-- Replace the fault register. -/
def State.setFault (s : State) (f : Option FaultInfo) : State := { s with cpu := { s.cpu with fault := f } }

/-- Replace the cycle count that the step returns. -/
def State.setCycles (s : State) (n : Nat) : State := { s with cpu := { s.cpu with cycles := n } }

/-- Replace work RAM. -/
def State.setRam (s : State) (m : Memory) : State := { s with bus := { s.bus with ram := m } }

/-- Replace vector RAM. -/
def State.setVram (s : State) (m : Memory) : State := { s with bus := { s.bus with vram := m } }

/-- Replace the ROM image: power-on and `withFetchWord` only. -/
def State.setRom (s : State) (m : Memory) : State := { s with bus := { s.bus with rom := m } }

/-- Replace the output latch. -/
def State.setLatch (s : State) (v : Byte) : State := { s with bus := { s.bus with outLatch := v } }

/-- Replace the input snapshot. -/
def State.setSnapshot (s : State) (i : Inputs) : State := { s with bus := { s.bus with snapshot := i } }

/-- Replace the output event list. -/
def State.setSound (s : State) (l : List SoundEvent) : State := { s with bus := { s.bus with soundEvents := l } }

/-- Replace the Vector Processor's state. -/
def State.setVp (s : State) (v : VpState) : State := { s with vp := v }

/-- Replace the Scheduler's state. -/
def State.setSched (s : State) (d : SchedState) : State := { s with sched := d }

/-- The CPU after reset. I = 1 and the pending bits, the counter and the fault register are the spec's (10_state R57). A,
X, Y, the other flags and S before the three suppressed pushes are draws, taken as 0 (DESIGN CHOICE, unsafe:
notes/assumptions/1.md), so S is 0xFD. The program counter is `Read16(0xFFFC)` of the blank image (DESIGN CHOICE, unsafe:
notes/assumptions/3.md). -/
def CpuState.reset : CpuState :=
  { a := 0, x := 0, y := 0, s := 0xFD, pc := 0,
    p := { n := false, v := false, b := false, d := false, i := true, z := false, c := false },
    irqPending := false, nmiPending := false, cycleCount := 0, fault := none, cycles := 0 }

/-- The snapshot before the first frame: nothing pressed, DIP 0 (DESIGN CHOICE, unsafe: notes/assumptions/12.md). -/
def Inputs.idle : Inputs :=
  { start := false, rotateLeft := false, rotateRight := false, fire := false, thrust := false, hyperspace := false,
    coin := false, dip := 0 }

/-- The Bus after reset: the default map (20_memory R111), the latch clear and no event (10_state R57); no byte listed in any
store (DESIGN CHOICE, unsafe: notes/assumptions/2.md and 3.md). -/
def BusState.reset : BusState :=
  { map := defaultMemoryMap, ram := ⟨[]⟩, vram := ⟨[]⟩, rom := ⟨[]⟩, outLatch := 0, snapshot := Inputs.idle,
    soundEvents := [] }

/-- The Vector Processor after reset: idle, every register 0 (10_state R57, 46_vector_processor R347). -/
def VpState.reset : VpState :=
  { vpc := 0, vx := 0, vy := 0, vscale := 0, vstack := { e0 := 0, e1 := 0, e2 := 0, e3 := 0 }, vsp := 0, halted := true }

/-- The Scheduler after reset (10_state R57); no frame has begun and the CPU moves first. -/
def SchedState.reset : SchedState :=
  { vpCredit := 0, frameOvershoot := 0, segments := [], nmiPhase := Config.nmiPeriod,
    used := 0, budget := 0, frameOpen := false, turn := .cpu, pendingInputs := [] }

/-- The machine right after reset (10_state R57, 70_reset_and_hazards R450). -/
def State.reset : State :=
  { cpu := CpuState.reset, bus := BusState.reset, vp := VpState.reset, sched := SchedState.reset }

end Sys2Proof.Machine
end

