-- ==== Sys2Proof/Machine/Flags.lean ====
section
/-! DEFINITION. The status byte and every flag computation: the arithmetic, compare, shift and rotate results of files 40
and 41 as functions of the operands and the flags. -/

namespace Sys2Proof.Machine

/-- `PackP(b)`: the status byte with break bit `b` and bit 5 set (10_state R44). -/
def Flags.pack (p : Flags) (b : Bool) : Byte :=
  BitVec.ofNat 8 (p.n.toNat * 128 + p.v.toNat * 64 + 32 + b.toNat * 16 + p.d.toNat * 8 + p.i.toNat * 4 +
    p.z.toNat * 2 + p.c.toNat)

/-- `UnpackP(v)`: every flag from its bit, bit 5 ignored (10_state R45). -/
def Flags.unpack (v : Byte) : Flags :=
  { n := v.getLsbD 7, v := v.getLsbD 6, b := v.getLsbD 4, d := v.getLsbD 3, i := v.getLsbD 2, z := v.getLsbD 1,
    c := v.getLsbD 0 }

/-- `SetNZ(v)`: N from bit 7, Z from the zero test (00_scope R10). -/
def Flags.setNZ (p : Flags) (v : Byte) : Flags := { p with n := v.getLsbD 7, z := decide (v = 0) }

/-- ADC with D = 0: the sum and the flags N, V, Z, C (40_arithmetic R201). -/
def adcBinary (a m : Byte) (p : Flags) : Byte × Flags :=
  let t := a.toNat + m.toNat + p.c.toNat
  let r : Byte := BitVec.ofNat 8 t
  (r, { p.setNZ r with c := decide (256 ≤ t), v := ((a ^^^ r) &&& (m ^^^ r)).getLsbD 7 })

/-- The low digit of a decimal ADC with its carry into the high digit (40_arithmetic R201). -/
def adcLowDigit (a m : Byte) (p : Flags) : Nat :=
  let al := a.toNat % 16 + m.toNat % 16 + p.c.toNat
  if 0x0A ≤ al then (al + 0x06) % 16 + 0x10 else al

/-- ADC with D = 1, NMOS: N and V from the intermediate sum, Z from the binary sum (40_arithmetic R201). -/
def adcDecimal (a m : Byte) (p : Flags) : Byte × Flags :=
  let bin : Byte := BitVec.ofNat 8 (a.toNat + m.toNat + p.c.toNat)
  let t := a.toNat / 16 * 16 + m.toNat / 16 * 16 + adcLowDigit a m p
  let u := if 0xA0 ≤ t then t + 0x60 else t
  (BitVec.ofNat 8 u,
    { p with n := t.testBit 7, v := ((a.toNat ^^^ t) &&& (m.toNat ^^^ t)).testBit 7, c := decide (0x100 ≤ u),
             z := decide (bin = 0) })

/-- ADC in the mode that D selects (40_arithmetic R201). -/
def adcResult (a m : Byte) (p : Flags) : Byte × Flags :=
  if p.d then adcDecimal a m p else adcBinary a m p

/-- The binary difference of SBC modulo 256 (40_arithmetic R202). -/
def sbcBinary (a m : Byte) (p : Flags) : Byte := BitVec.ofNat 8 (a.toNat + (255 - m.toNat) + p.c.toNat)

/-- The accumulator that SBC leaves when D = 1, NMOS (40_arithmetic R202). -/
def sbcDecimal (a m : Byte) (p : Flags) : Byte :=
  let al0 : Int := (a.toNat % 16 : Nat) - (m.toNat % 16 : Nat) + (p.c.toNat : Int) - 1
  let al : Int := if al0 < 0 then (al0 - 0x06) % 16 - 0x10 else al0
  let t0 : Int := (a.toNat / 16 * 16 : Nat) - (m.toNat / 16 * 16 : Nat) + al
  let t : Int := if t0 < 0 then t0 - 0x60 else t0
  BitVec.ofInt 8 (t % 256)

/-- SBC: the accumulator in the mode that D selects, and the flags, the same in both modes (40_arithmetic R202). -/
def sbcResult (a m : Byte) (p : Flags) : Byte × Flags :=
  let bin := sbcBinary a m p
  (if p.d then sbcDecimal a m p else bin,
    { p.setNZ bin with
      c := decide (256 ≤ a.toNat + (255 - m.toNat) + p.c.toNat),
      v := ((a ^^^ m) &&& (a ^^^ bin)).getLsbD 7 })

/-- The flags of a compare of register value `r` with `m`: N, Z, C, nothing stored (40_arithmetic R203-R205). -/
def compareFlags (r m : Byte) (p : Flags) : Flags :=
  { p with c := decide (m.toNat ≤ r.toNat), z := decide (r = m), n := (r - m).getLsbD 7 }

/-- The flags of BIT: Z from the AND, N and V from the memory byte (41_logic R233). -/
def bitFlags (a m : Byte) (p : Flags) : Flags :=
  { p with z := decide (a &&& m = 0), n := m.getLsbD 7, v := m.getLsbD 6 }

/-- INC's result and flags (40_arithmetic R206). -/
def incResult (p : Flags) (v : Byte) : Byte × Flags := (v + 1, p.setNZ (v + 1))

/-- DEC's result and flags (40_arithmetic R207). -/
def decResult (p : Flags) (v : Byte) : Byte × Flags := (v - 1, p.setNZ (v - 1))

/-- ASL's result and flags (41_logic R234). -/
def aslResult (p : Flags) (v : Byte) : Byte × Flags :=
  let r : Byte := BitVec.ofNat 8 (v.toNat * 2)
  (r, { p.setNZ r with c := v.getLsbD 7 })

/-- LSR's result and flags (41_logic R235). -/
def lsrResult (p : Flags) (v : Byte) : Byte × Flags :=
  let r : Byte := BitVec.ofNat 8 (v.toNat / 2)
  (r, { p.setNZ r with c := v.getLsbD 0 })

/-- ROL's result and flags (41_logic R236). -/
def rolResult (p : Flags) (v : Byte) : Byte × Flags :=
  let r : Byte := BitVec.ofNat 8 (v.toNat * 2 + p.c.toNat)
  (r, { p.setNZ r with c := v.getLsbD 7 })

/-- ROR's result and flags (41_logic R237). -/
def rorResult (p : Flags) (v : Byte) : Byte × Flags :=
  let r : Byte := BitVec.ofNat 8 (v.toNat / 2 + 128 * p.c.toNat)
  (r, { p.setNZ r with c := v.getLsbD 0 })

end Sys2Proof.Machine
end

