-- ==== Sys2Proof/Machine/Ops.lean ====
section
/-! DEFINITION. The named operations over memory and registers: the backing stores, Bus reads and writes, the
stack, the entry of an interrupt or BRK, and the return from one. -/

namespace Sys2Proof.Machine

/-- The byte at offset `k` of a list of cells; an unlisted offset reads 0x00 (DESIGN CHOICE, unsafe:
notes/assumptions/2.md). -/
def lookupCell : List Host.Cell → Nat → Byte
  | [], _ => 0
  | (j, w) :: t, k => if j = k then w else lookupCell t k

/-- Store `v` at offset `k`, keeping the canonical form: a zero byte is not listed. -/
def insertCell : List Host.Cell → Nat → Byte → List Host.Cell
  | [], k, v => if v = 0 then [] else [(k, v)]
  | (j, w) :: t, k, v =>
    if k < j then (if v = 0 then (j, w) :: t else (k, v) :: (j, w) :: t)
    else if k = j then (if v = 0 then t else (k, v) :: t)
    else (j, w) :: insertCell t k v

/-- The byte at offset `k` of a backing store (20_memory R102, R103). -/
def Memory.get (m : Memory) (k : Nat) : Byte := lookupCell m.cells k

/-- A backing store with the byte at offset `k` replaced (20_memory R102). -/
def Memory.set (m : Memory) (k : Nat) (v : Byte) : Memory := ⟨insertCell m.cells k v⟩

/-- The address an access behaves as: bit 15 is not decoded (20_memory R112). -/
def mirror (a : Word) : Word := BitVec.ofNat 16 (a.toNat % 0x8000)

/-- The RAM byte that backs offset `k` of RAM under the latch's RAMSEL bit, which swaps RAM pages 2 and 3 (20_memory R113,
10_state R52). -/
def ramIndex (latch : Byte) (k : Nat) : Nat :=
  if latch.getLsbD 2 then
    if 0x200 ≤ k ∧ k < 0x300 then k + 0x100 else if 0x300 ≤ k ∧ k < 0x400 then k - 0x100 else k
  else k

/-- IN0's line `n` (20_memory R114). Lines 5, 6 and 7 (diagnostic step, slam, self-test) are not in the snapshot and
read 0. -/
def State.in0Line (s : State) (n : Nat) : Bool :=
  match n with
  | 1 => s.cpu.cycleCount.testBit 8
  | 2 => !s.vp.halted
  | 3 => s.bus.snapshot.hyperspace
  | 4 => s.bus.snapshot.fire
  | _ => false

/-- IN1's line `n` (20_memory R114). Coin lines 1 and 2 and the 2-player start are not in the snapshot and read 0. -/
def State.in1Line (s : State) (n : Nat) : Bool :=
  match n with
  | 0 => s.bus.snapshot.coin
  | 3 => s.bus.snapshot.start
  | 5 => s.bus.snapshot.thrust
  | 6 => s.bus.snapshot.rotateRight
  | 7 => s.bus.snapshot.rotateLeft
  | _ => false

/-- A switch line in bit 7 over the undriven bits of the open bus (20_memory R114). -/
def lineByte (line : Bool) (a : Word) : Byte :=
  BitVec.ofNat 8 (line.toNat * 128) ||| (Config.openBus a &&& 0x7F)

/-- Two DIP bits in bits 1..0 over the undriven bits of the open bus (20_memory R114). -/
def dipByte (dip : Byte) (n : Nat) (a : Word) : Byte :=
  ((dip >>> (2 * (3 - n))) &&& 3) ||| (Config.openBus a &&& 0xFC)

/-- `MemRead(a, 1)`: one Bus read (20_memory R102-R105, R114). No read of this hardware has a side effect. -/
def State.read (s : State) (a : Word) : Byte :=
  match s.bus.map.classify a with
  | .ram k => s.bus.ram.get (ramIndex s.bus.outLatch k)
  | .vram k => s.bus.vram.get k
  | .rom k => s.bus.rom.get k
  | .in0 n => lineByte (s.in0Line n) (mirror a)
  | .in1 n => lineByte (s.in1Line n) (mirror a)
  | .dsw n => dipByte s.bus.snapshot.dip n (mirror a)
  | .dmago => Config.openBus (mirror a)
  | .latch => Config.openBus (mirror a)
  | .watchdog => Config.openBus (mirror a)
  | .sound => Config.openBus (mirror a)
  | .unmapped => Config.openBus (mirror a)

/-- A DMAGO write: the Vector Processor starts at `vpStartWord` with an empty stack; the beam, the scale and the stack's
entries are kept (46_vector_processor R340). -/
def State.startVp (s : State) : State :=
  s.setVp { s.vp with vpc := Config.vpStartWord, vsp := 0, halted := false }

/-- `MemWrite(a, 1, v)`: one Bus write (20_memory R102-R105, R115). -/
def State.write (s : State) (a : Word) (v : Byte) : State :=
  match s.bus.map.classify a with
  | .ram k => s.setRam (s.bus.ram.set (ramIndex s.bus.outLatch k) v)
  | .vram k => s.setVram (s.bus.vram.set k v)
  | .dmago => s.startVp
  | .latch => s.setLatch v
  | .sound => s.setSound (s.bus.soundEvents ++ [⟨mirror a, v⟩])
  | .rom _ => s
  | .in0 _ => s
  | .in1 _ => s
  | .dsw _ => s
  | .watchdog => s
  | .unmapped => s

/-- `Read16(a)`: two reads, low byte first (00_scope R10). -/
def State.read16 (s : State) (a : Word) : Word := w16 (s.read a) (s.read (a + 1))

/-- The address of the stack slot that `S` names (10_state R42). -/
def stackAddr (sp : Byte) : Word := 0x0100 + zext sp

/-- `Push(v)`: write at `0x0100 + S`, then decrement S modulo 256 (00_scope R10). -/
def State.push (s : State) (v : Byte) : State := (s.write (stackAddr s.cpu.s) v).setS (s.cpu.s - 1)

/-- Push a word, its high byte first (20_memory R108). -/
def State.pushWord (s : State) (w : Word) : State := (s.push (hi w)).push (lo w)

/-- The byte that `Pull()` returns: the one at the incremented stack pointer (00_scope R10). -/
def State.pulled (s : State) : Byte := s.read (stackAddr (s.cpu.s + 1))

/-- The state that `Pull()` leaves: S incremented modulo 256 (00_scope R10). -/
def State.pop (s : State) : State := s.setS (s.cpu.s + 1)

/-- The NMI vector (20_memory R116). -/
def nmiVector : Word := 0xFFFA

/-- The reset vector (20_memory R116). -/
def resetVector : Word := 0xFFFC

/-- The IRQ and BRK vector (20_memory R116). -/
def irqVector : Word := 0xFFFE

/-- Taking an exception, shared by NMI, IRQ and BRK: push the return address and the status byte with break bit `brk`,
set I, and load the program counter from the vector (60_exceptions R413, 43_branch_jump R282). -/
def State.enterVector (s : State) (ret : Word) (brk : Bool) (vec : Word) : State :=
  let t := (s.pushWord ret).push (s.cpu.p.pack brk)
  (t.setP { t.cpu.p with i := true }).setPC (t.read16 vec)

/-- `InterruptEntry(vec)`, the 7-cycle step of an NMI or IRQ (60_exceptions R411, R413). -/
def State.interruptEntry (s : State) (vec : Word) : State := (s.enterVector s.cpu.pc false vec).setCycles 7

/-- The return from an interrupt or BRK: pull the status and then the program counter (43_branch_jump R283). -/
def State.returnFromInterrupt (s : State) : State :=
  let t := s.pop.setP (Flags.unpack s.pulled)
  let u := t.pop
  u.pop.setPC (w16 t.pulled u.pulled)

/-- Set N and Z from a value (00_scope R10). -/
def State.setNZ (s : State) (v : Byte) : State := s.setP (s.cpu.p.setNZ v)

/-- The end of an instruction of `len` bytes that is no control transfer: the program counter at `PCn` and the cycles
the step returns (30_encoding R174, 70_reset_and_hazards R470). -/
def State.retire (s : State) (len cyc : Nat) : State :=
  (s.setPC (s.cpu.pc + BitVec.ofNat 16 len)).setCycles cyc

/-- The decode fault: the fault register records it, nothing else of the machine changes, and the step returns 0 cycles
(30_encoding R170, 60_exceptions R400). -/
def State.raiseDecodeFault (s : State) : State :=
  (s.setFault (some ⟨s.cpu.pc, s.read s.cpu.pc⟩)).setCycles 0

/-- The entry of the return stack at index `k` (46_vector_processor R333, R334). -/
def VStack.get (v : VStack) (k : Fin 4) : VAddr :=
  match k with
  | 0 => v.e0
  | 1 => v.e1
  | 2 => v.e2
  | 3 => v.e3

/-- The return stack with the entry at index `k` replaced (46_vector_processor R333). -/
def VStack.set (v : VStack) (k : Fin 4) (w : VAddr) : VStack :=
  match k with
  | 0 => { v with e0 := w }
  | 1 => { v with e1 := w }
  | 2 => { v with e2 := w }
  | 3 => { v with e3 := w }

/-- The CPU address of the low byte of word `w` of the Vector Processor's space (20_memory R107). -/
def vpByteAddr (w : VAddr) : Word := BitVec.ofNat 16 (0x4000 + 2 * w.toNat)

/-- `VpReadWord(w)`: two Bus reads, low byte first (20_memory R107). -/
def State.vpRead (s : State) (w : VAddr) : Word := w16 (s.read (vpByteAddr w)) (s.read (vpByteAddr w + 1))

/-- Append a segment to the frame's output (46_vector_processor R325). -/
def State.emit (s : State) (g : Segment) : State :=
  s.setSched { s.sched with segments := s.sched.segments ++ [g] }

end Sys2Proof.Machine
end

