-- ==== Sys2Proof/Syntax.lean ====
section
/-! DEFINITION. The syntax of the two instruction sets: one constructor of `Instr` per row of spec/opcode_table.json
(151 CPU opcodes and 16 Vector Processor rows), and the structured view (mnemonic and addressing mode) that
30_encoding R174 names `OpcodeTable`. -/

namespace Sys2Proof

/-- The two instruction sets (00_scope R2, R3): the CPU's and the Vector Processor's. -/
inductive Isa where
  | cpu
  | vp
deriving DecidableEq, Repr

/-- The addressing modes that name a byte of memory (30_encoding R163), with their operand bytes. -/
inductive MemMode where
  | zp (a : Byte)
  | zpx (a : Byte)
  | zpy (a : Byte)
  | abs (w : Word)
  | absx (w : Word)
  | absy (w : Word)
  | indx (a : Byte)
  | indy (a : Byte)
deriving DecidableEq, Repr

/-- What an instruction's `Operand()` reads when it is no register (30_encoding R175): the immediate byte, or memory. -/
inductive Operand where
  | imm (v : Byte)
  | mem (m : MemMode)
deriving DecidableEq, Repr

/-- The addressing modes of 30_encoding R163: implied, accumulator, a source operand, (abs) and relative. -/
inductive Mode where
  | imp
  | acc
  | src (o : Operand)
  | ind (w : Word)
  | rel (off : Byte)
deriving DecidableEq, Repr

/-- The bytes that a memory mode adds to the opcode byte, plus the opcode byte (30_encoding R162). -/
def MemMode.length : MemMode → Nat
  | .zp _ => 2
  | .zpx _ => 2
  | .zpy _ => 2
  | .abs _ => 3
  | .absx _ => 3
  | .absy _ => 3
  | .indx _ => 2
  | .indy _ => 2

/-- The length of an instruction with this operand (30_encoding R162). -/
def Operand.length : Operand → Nat
  | .imm _ => 2
  | .mem m => m.length

/-- The length that a mode gives an instruction (30_encoding R162). -/
def Mode.length : Mode → Nat
  | .imp => 1
  | .acc => 1
  | .src o => o.length
  | .ind _ => 3
  | .rel _ => 2

/-- The fields of VCTR's two words, with the two ignored bits 11 (46_vector_processor R324). -/
structure VctrFields where
  u0 : Bool
  ysign : Bool
  dy : BitVec 10
  z : BitVec 4
  u1 : Bool
  xsign : Bool
  dx : BitVec 10
deriving DecidableEq, Repr

/-- The fields of LABS's two words (46_vector_processor R324). -/
structure LabsFields where
  y : BitVec 12
  s : BitVec 4
  x : BitVec 12
deriving DecidableEq, Repr

/-- The fields of SVEC's word (46_vector_processor R324). -/
structure SvecFields where
  s0 : Bool
  ysign : Bool
  dyh : BitVec 2
  z : BitVec 4
  s1 : Bool
  xsign : Bool
  dxh : BitVec 2
deriving DecidableEq, Repr

/-- The CPU's mnemonics (30_encoding R165). -/
inductive Mnemonic where
  | adc | sbc | cmp | cpx | cpy | inc | dec | inx
  | iny | dex | dey | and | ora | eor | bit | asl
  | lsr | rol | ror | lda | ldx | ldy | sta | stx
  | sty | tax | tay | txa | tya | tsx | txs | bcc
  | bcs | beq | bmi | bne | bpl | bvc | bvs | jmp
  | jsr | rts | brk | rti | nop | pha | php | pla
  | plp | clc | sec | cli | sei | cld | sed | clv
deriving DecidableEq, Repr

/-- The Vector Processor's instructions, the ten VCTR rows as one with its local scale (46_vector_processor R324). -/
inductive VpOp where
  | vctr (scale : BitVec 4) (f : VctrFields)
  | labs (f : LabsFields)
  | halt (u : BitVec 12)
  | jsrl (t : VAddr)
  | rtsl (u : BitVec 12)
  | jmpl (t : VAddr)
  | svec (f : SvecFields)
deriving DecidableEq, Repr

/-- One constructor per row of spec/opcode_table.json. A CPU constructor carries its operand bytes (an absolute operand
as the word `w16(b1, b2)`, 30_encoding R164); a Vector Processor constructor carries every bit of its words below the
opcode, the ignored ones too, since 46_vector_processor R342 lets the cost of an instruction depend on them. -/
inductive Instr where
  /-- ADC immediate, opcode 0x69 (R201). -/
  | adcImm (v : Byte)
  /-- ADC zero page, opcode 0x65 (R201). -/
  | adcZp (a : Byte)
  /-- ADC zero page,X, opcode 0x75 (R201). -/
  | adcZpX (a : Byte)
  /-- ADC absolute, opcode 0x6D (R201). -/
  | adcAbs (w : Word)
  /-- ADC absolute,X, opcode 0x7D (R201). -/
  | adcAbsX (w : Word)
  /-- ADC absolute,Y, opcode 0x79 (R201). -/
  | adcAbsY (w : Word)
  /-- ADC (zp,X), opcode 0x61 (R201). -/
  | adcIndX (a : Byte)
  /-- ADC (zp),Y, opcode 0x71 (R201). -/
  | adcIndY (a : Byte)
  /-- SBC immediate, opcode 0xE9 (R202). -/
  | sbcImm (v : Byte)
  /-- SBC zero page, opcode 0xE5 (R202). -/
  | sbcZp (a : Byte)
  /-- SBC zero page,X, opcode 0xF5 (R202). -/
  | sbcZpX (a : Byte)
  /-- SBC absolute, opcode 0xED (R202). -/
  | sbcAbs (w : Word)
  /-- SBC absolute,X, opcode 0xFD (R202). -/
  | sbcAbsX (w : Word)
  /-- SBC absolute,Y, opcode 0xF9 (R202). -/
  | sbcAbsY (w : Word)
  /-- SBC (zp,X), opcode 0xE1 (R202). -/
  | sbcIndX (a : Byte)
  /-- SBC (zp),Y, opcode 0xF1 (R202). -/
  | sbcIndY (a : Byte)
  /-- CMP immediate, opcode 0xC9 (R203). -/
  | cmpImm (v : Byte)
  /-- CMP zero page, opcode 0xC5 (R203). -/
  | cmpZp (a : Byte)
  /-- CMP zero page,X, opcode 0xD5 (R203). -/
  | cmpZpX (a : Byte)
  /-- CMP absolute, opcode 0xCD (R203). -/
  | cmpAbs (w : Word)
  /-- CMP absolute,X, opcode 0xDD (R203). -/
  | cmpAbsX (w : Word)
  /-- CMP absolute,Y, opcode 0xD9 (R203). -/
  | cmpAbsY (w : Word)
  /-- CMP (zp,X), opcode 0xC1 (R203). -/
  | cmpIndX (a : Byte)
  /-- CMP (zp),Y, opcode 0xD1 (R203). -/
  | cmpIndY (a : Byte)
  /-- CPX immediate, opcode 0xE0 (R204). -/
  | cpxImm (v : Byte)
  /-- CPX zero page, opcode 0xE4 (R204). -/
  | cpxZp (a : Byte)
  /-- CPX absolute, opcode 0xEC (R204). -/
  | cpxAbs (w : Word)
  /-- CPY immediate, opcode 0xC0 (R205). -/
  | cpyImm (v : Byte)
  /-- CPY zero page, opcode 0xC4 (R205). -/
  | cpyZp (a : Byte)
  /-- CPY absolute, opcode 0xCC (R205). -/
  | cpyAbs (w : Word)
  /-- INC zero page, opcode 0xE6 (R206). -/
  | incZp (a : Byte)
  /-- INC zero page,X, opcode 0xF6 (R206). -/
  | incZpX (a : Byte)
  /-- INC absolute, opcode 0xEE (R206). -/
  | incAbs (w : Word)
  /-- INC absolute,X, opcode 0xFE (R206). -/
  | incAbsX (w : Word)
  /-- DEC zero page, opcode 0xC6 (R207). -/
  | decZp (a : Byte)
  /-- DEC zero page,X, opcode 0xD6 (R207). -/
  | decZpX (a : Byte)
  /-- DEC absolute, opcode 0xCE (R207). -/
  | decAbs (w : Word)
  /-- DEC absolute,X, opcode 0xDE (R207). -/
  | decAbsX (w : Word)
  /-- INX implied, opcode 0xE8 (R208). -/
  | inx
  /-- INY implied, opcode 0xC8 (R209). -/
  | iny
  /-- DEX implied, opcode 0xCA (R210). -/
  | dex
  /-- DEY implied, opcode 0x88 (R211). -/
  | dey
  /-- AND immediate, opcode 0x29 (R230). -/
  | andImm (v : Byte)
  /-- AND zero page, opcode 0x25 (R230). -/
  | andZp (a : Byte)
  /-- AND zero page,X, opcode 0x35 (R230). -/
  | andZpX (a : Byte)
  /-- AND absolute, opcode 0x2D (R230). -/
  | andAbs (w : Word)
  /-- AND absolute,X, opcode 0x3D (R230). -/
  | andAbsX (w : Word)
  /-- AND absolute,Y, opcode 0x39 (R230). -/
  | andAbsY (w : Word)
  /-- AND (zp,X), opcode 0x21 (R230). -/
  | andIndX (a : Byte)
  /-- AND (zp),Y, opcode 0x31 (R230). -/
  | andIndY (a : Byte)
  /-- ORA immediate, opcode 0x09 (R231). -/
  | oraImm (v : Byte)
  /-- ORA zero page, opcode 0x05 (R231). -/
  | oraZp (a : Byte)
  /-- ORA zero page,X, opcode 0x15 (R231). -/
  | oraZpX (a : Byte)
  /-- ORA absolute, opcode 0x0D (R231). -/
  | oraAbs (w : Word)
  /-- ORA absolute,X, opcode 0x1D (R231). -/
  | oraAbsX (w : Word)
  /-- ORA absolute,Y, opcode 0x19 (R231). -/
  | oraAbsY (w : Word)
  /-- ORA (zp,X), opcode 0x01 (R231). -/
  | oraIndX (a : Byte)
  /-- ORA (zp),Y, opcode 0x11 (R231). -/
  | oraIndY (a : Byte)
  /-- EOR immediate, opcode 0x49 (R232). -/
  | eorImm (v : Byte)
  /-- EOR zero page, opcode 0x45 (R232). -/
  | eorZp (a : Byte)
  /-- EOR zero page,X, opcode 0x55 (R232). -/
  | eorZpX (a : Byte)
  /-- EOR absolute, opcode 0x4D (R232). -/
  | eorAbs (w : Word)
  /-- EOR absolute,X, opcode 0x5D (R232). -/
  | eorAbsX (w : Word)
  /-- EOR absolute,Y, opcode 0x59 (R232). -/
  | eorAbsY (w : Word)
  /-- EOR (zp,X), opcode 0x41 (R232). -/
  | eorIndX (a : Byte)
  /-- EOR (zp),Y, opcode 0x51 (R232). -/
  | eorIndY (a : Byte)
  /-- BIT zero page, opcode 0x24 (R233). -/
  | bitZp (a : Byte)
  /-- BIT absolute, opcode 0x2C (R233). -/
  | bitAbs (w : Word)
  /-- ASL accumulator, opcode 0x0A (R234). -/
  | aslAcc
  /-- ASL zero page, opcode 0x06 (R234). -/
  | aslZp (a : Byte)
  /-- ASL zero page,X, opcode 0x16 (R234). -/
  | aslZpX (a : Byte)
  /-- ASL absolute, opcode 0x0E (R234). -/
  | aslAbs (w : Word)
  /-- ASL absolute,X, opcode 0x1E (R234). -/
  | aslAbsX (w : Word)
  /-- LSR accumulator, opcode 0x4A (R235). -/
  | lsrAcc
  /-- LSR zero page, opcode 0x46 (R235). -/
  | lsrZp (a : Byte)
  /-- LSR zero page,X, opcode 0x56 (R235). -/
  | lsrZpX (a : Byte)
  /-- LSR absolute, opcode 0x4E (R235). -/
  | lsrAbs (w : Word)
  /-- LSR absolute,X, opcode 0x5E (R235). -/
  | lsrAbsX (w : Word)
  /-- ROL accumulator, opcode 0x2A (R236). -/
  | rolAcc
  /-- ROL zero page, opcode 0x26 (R236). -/
  | rolZp (a : Byte)
  /-- ROL zero page,X, opcode 0x36 (R236). -/
  | rolZpX (a : Byte)
  /-- ROL absolute, opcode 0x2E (R236). -/
  | rolAbs (w : Word)
  /-- ROL absolute,X, opcode 0x3E (R236). -/
  | rolAbsX (w : Word)
  /-- ROR accumulator, opcode 0x6A (R237). -/
  | rorAcc
  /-- ROR zero page, opcode 0x66 (R237). -/
  | rorZp (a : Byte)
  /-- ROR zero page,X, opcode 0x76 (R237). -/
  | rorZpX (a : Byte)
  /-- ROR absolute, opcode 0x6E (R237). -/
  | rorAbs (w : Word)
  /-- ROR absolute,X, opcode 0x7E (R237). -/
  | rorAbsX (w : Word)
  /-- LDA immediate, opcode 0xA9 (R251). -/
  | ldaImm (v : Byte)
  /-- LDA zero page, opcode 0xA5 (R251). -/
  | ldaZp (a : Byte)
  /-- LDA zero page,X, opcode 0xB5 (R251). -/
  | ldaZpX (a : Byte)
  /-- LDA absolute, opcode 0xAD (R251). -/
  | ldaAbs (w : Word)
  /-- LDA absolute,X, opcode 0xBD (R251). -/
  | ldaAbsX (w : Word)
  /-- LDA absolute,Y, opcode 0xB9 (R251). -/
  | ldaAbsY (w : Word)
  /-- LDA (zp,X), opcode 0xA1 (R251). -/
  | ldaIndX (a : Byte)
  /-- LDA (zp),Y, opcode 0xB1 (R251). -/
  | ldaIndY (a : Byte)
  /-- LDX immediate, opcode 0xA2 (R252). -/
  | ldxImm (v : Byte)
  /-- LDX zero page, opcode 0xA6 (R252). -/
  | ldxZp (a : Byte)
  /-- LDX zero page,Y, opcode 0xB6 (R252). -/
  | ldxZpY (a : Byte)
  /-- LDX absolute, opcode 0xAE (R252). -/
  | ldxAbs (w : Word)
  /-- LDX absolute,Y, opcode 0xBE (R252). -/
  | ldxAbsY (w : Word)
  /-- LDY immediate, opcode 0xA0 (R253). -/
  | ldyImm (v : Byte)
  /-- LDY zero page, opcode 0xA4 (R253). -/
  | ldyZp (a : Byte)
  /-- LDY zero page,X, opcode 0xB4 (R253). -/
  | ldyZpX (a : Byte)
  /-- LDY absolute, opcode 0xAC (R253). -/
  | ldyAbs (w : Word)
  /-- LDY absolute,X, opcode 0xBC (R253). -/
  | ldyAbsX (w : Word)
  /-- STA zero page, opcode 0x85 (R254). -/
  | staZp (a : Byte)
  /-- STA zero page,X, opcode 0x95 (R254). -/
  | staZpX (a : Byte)
  /-- STA absolute, opcode 0x8D (R254). -/
  | staAbs (w : Word)
  /-- STA absolute,X, opcode 0x9D (R254). -/
  | staAbsX (w : Word)
  /-- STA absolute,Y, opcode 0x99 (R254). -/
  | staAbsY (w : Word)
  /-- STA (zp,X), opcode 0x81 (R254). -/
  | staIndX (a : Byte)
  /-- STA (zp),Y, opcode 0x91 (R254). -/
  | staIndY (a : Byte)
  /-- STX zero page, opcode 0x86 (R255). -/
  | stxZp (a : Byte)
  /-- STX zero page,Y, opcode 0x96 (R255). -/
  | stxZpY (a : Byte)
  /-- STX absolute, opcode 0x8E (R255). -/
  | stxAbs (w : Word)
  /-- STY zero page, opcode 0x84 (R256). -/
  | styZp (a : Byte)
  /-- STY zero page,X, opcode 0x94 (R256). -/
  | styZpX (a : Byte)
  /-- STY absolute, opcode 0x8C (R256). -/
  | styAbs (w : Word)
  /-- TAX implied, opcode 0xAA (R257). -/
  | tax
  /-- TAY implied, opcode 0xA8 (R258). -/
  | tay
  /-- TXA implied, opcode 0x8A (R259). -/
  | txa
  /-- TYA implied, opcode 0x98 (R260). -/
  | tya
  /-- TSX implied, opcode 0xBA (R261). -/
  | tsx
  /-- TXS implied, opcode 0x9A (R262). -/
  | txs
  /-- BCC relative, opcode 0x90 (R271). -/
  | bcc (off : Byte)
  /-- BCS relative, opcode 0xB0 (R272). -/
  | bcs (off : Byte)
  /-- BEQ relative, opcode 0xF0 (R273). -/
  | beq (off : Byte)
  /-- BMI relative, opcode 0x30 (R274). -/
  | bmi (off : Byte)
  /-- BNE relative, opcode 0xD0 (R275). -/
  | bne (off : Byte)
  /-- BPL relative, opcode 0x10 (R276). -/
  | bpl (off : Byte)
  /-- BVC relative, opcode 0x50 (R277). -/
  | bvc (off : Byte)
  /-- BVS relative, opcode 0x70 (R278). -/
  | bvs (off : Byte)
  /-- JMP absolute, opcode 0x4C (R279). -/
  | jmpAbs (w : Word)
  /-- JMP (abs), opcode 0x6C (R279). -/
  | jmpInd (w : Word)
  /-- JSR absolute, opcode 0x20 (R280). -/
  | jsr (target : Word)
  /-- RTS implied, opcode 0x60 (R281). -/
  | rts
  /-- BRK implied, opcode 0x00 (R282). -/
  | brk
  /-- RTI implied, opcode 0x40 (R283). -/
  | rti
  /-- NOP implied, opcode 0xEA (R284). -/
  | nop
  /-- PHA implied, opcode 0x48 (R300). -/
  | pha
  /-- PHP implied, opcode 0x08 (R301). -/
  | php
  /-- PLA implied, opcode 0x68 (R302). -/
  | pla
  /-- PLP implied, opcode 0x28 (R303). -/
  | plp
  /-- CLC implied, opcode 0x18 (R310). -/
  | clc
  /-- SEC implied, opcode 0x38 (R311). -/
  | sec
  /-- CLI implied, opcode 0x58 (R312). -/
  | cli
  /-- SEI implied, opcode 0x78 (R313). -/
  | sei
  /-- CLD implied, opcode 0xD8 (R314). -/
  | cld
  /-- SED implied, opcode 0xF8 (R315). -/
  | sed
  /-- CLV implied, opcode 0xB8 (R316). -/
  | clv
  /-- VCTR, local scale 0, first word 0x0000 (R330). -/
  | vctr0 (f : VctrFields)
  /-- VCTR, local scale 1, first word 0x1000 (R330). -/
  | vctr1 (f : VctrFields)
  /-- VCTR, local scale 2, first word 0x2000 (R330). -/
  | vctr2 (f : VctrFields)
  /-- VCTR, local scale 3, first word 0x3000 (R330). -/
  | vctr3 (f : VctrFields)
  /-- VCTR, local scale 4, first word 0x4000 (R330). -/
  | vctr4 (f : VctrFields)
  /-- VCTR, local scale 5, first word 0x5000 (R330). -/
  | vctr5 (f : VctrFields)
  /-- VCTR, local scale 6, first word 0x6000 (R330). -/
  | vctr6 (f : VctrFields)
  /-- VCTR, local scale 7, first word 0x7000 (R330). -/
  | vctr7 (f : VctrFields)
  /-- VCTR, local scale 8, first word 0x8000 (R330). -/
  | vctr8 (f : VctrFields)
  /-- VCTR, local scale 9, first word 0x9000 (R330). -/
  | vctr9 (f : VctrFields)
  /-- LABS, VP, first word 0xA000 (R331). -/
  | labs (f : LabsFields)
  /-- HALT, VP, first word 0xB000 (R332). -/
  | halt (u : BitVec 12)
  /-- JSRL, VP, first word 0xC000 (R333). -/
  | jsrl (t : VAddr)
  /-- RTSL, VP, first word 0xD000 (R334). -/
  | rtsl (u : BitVec 12)
  /-- JMPL, VP, first word 0xE000 (R335). -/
  | jmpl (t : VAddr)
  /-- SVEC, VP, first word 0xF000 (R336). -/
  | svec (f : SvecFields)
deriving DecidableEq, Repr

/-- An instruction as 30_encoding R174's pair (mnemonic, mode), or as a Vector Processor operation. -/
inductive View where
  | cpu (k : Mnemonic) (m : Mode)
  | vp (op : VpOp)
deriving DecidableEq, Repr

/-- The mnemonic and mode of every row of spec/opcode_table.json (30_encoding R166, 46_vector_processor R324). -/
def Instr.view : Instr → View
  | .adcImm v => .cpu .adc (.src (.imm v))
  | .adcZp a => .cpu .adc (.src (.mem (.zp a)))
  | .adcZpX a => .cpu .adc (.src (.mem (.zpx a)))
  | .adcAbs w => .cpu .adc (.src (.mem (.abs w)))
  | .adcAbsX w => .cpu .adc (.src (.mem (.absx w)))
  | .adcAbsY w => .cpu .adc (.src (.mem (.absy w)))
  | .adcIndX a => .cpu .adc (.src (.mem (.indx a)))
  | .adcIndY a => .cpu .adc (.src (.mem (.indy a)))
  | .sbcImm v => .cpu .sbc (.src (.imm v))
  | .sbcZp a => .cpu .sbc (.src (.mem (.zp a)))
  | .sbcZpX a => .cpu .sbc (.src (.mem (.zpx a)))
  | .sbcAbs w => .cpu .sbc (.src (.mem (.abs w)))
  | .sbcAbsX w => .cpu .sbc (.src (.mem (.absx w)))
  | .sbcAbsY w => .cpu .sbc (.src (.mem (.absy w)))
  | .sbcIndX a => .cpu .sbc (.src (.mem (.indx a)))
  | .sbcIndY a => .cpu .sbc (.src (.mem (.indy a)))
  | .cmpImm v => .cpu .cmp (.src (.imm v))
  | .cmpZp a => .cpu .cmp (.src (.mem (.zp a)))
  | .cmpZpX a => .cpu .cmp (.src (.mem (.zpx a)))
  | .cmpAbs w => .cpu .cmp (.src (.mem (.abs w)))
  | .cmpAbsX w => .cpu .cmp (.src (.mem (.absx w)))
  | .cmpAbsY w => .cpu .cmp (.src (.mem (.absy w)))
  | .cmpIndX a => .cpu .cmp (.src (.mem (.indx a)))
  | .cmpIndY a => .cpu .cmp (.src (.mem (.indy a)))
  | .cpxImm v => .cpu .cpx (.src (.imm v))
  | .cpxZp a => .cpu .cpx (.src (.mem (.zp a)))
  | .cpxAbs w => .cpu .cpx (.src (.mem (.abs w)))
  | .cpyImm v => .cpu .cpy (.src (.imm v))
  | .cpyZp a => .cpu .cpy (.src (.mem (.zp a)))
  | .cpyAbs w => .cpu .cpy (.src (.mem (.abs w)))
  | .incZp a => .cpu .inc (.src (.mem (.zp a)))
  | .incZpX a => .cpu .inc (.src (.mem (.zpx a)))
  | .incAbs w => .cpu .inc (.src (.mem (.abs w)))
  | .incAbsX w => .cpu .inc (.src (.mem (.absx w)))
  | .decZp a => .cpu .dec (.src (.mem (.zp a)))
  | .decZpX a => .cpu .dec (.src (.mem (.zpx a)))
  | .decAbs w => .cpu .dec (.src (.mem (.abs w)))
  | .decAbsX w => .cpu .dec (.src (.mem (.absx w)))
  | .inx => .cpu .inx .imp
  | .iny => .cpu .iny .imp
  | .dex => .cpu .dex .imp
  | .dey => .cpu .dey .imp
  | .andImm v => .cpu .and (.src (.imm v))
  | .andZp a => .cpu .and (.src (.mem (.zp a)))
  | .andZpX a => .cpu .and (.src (.mem (.zpx a)))
  | .andAbs w => .cpu .and (.src (.mem (.abs w)))
  | .andAbsX w => .cpu .and (.src (.mem (.absx w)))
  | .andAbsY w => .cpu .and (.src (.mem (.absy w)))
  | .andIndX a => .cpu .and (.src (.mem (.indx a)))
  | .andIndY a => .cpu .and (.src (.mem (.indy a)))
  | .oraImm v => .cpu .ora (.src (.imm v))
  | .oraZp a => .cpu .ora (.src (.mem (.zp a)))
  | .oraZpX a => .cpu .ora (.src (.mem (.zpx a)))
  | .oraAbs w => .cpu .ora (.src (.mem (.abs w)))
  | .oraAbsX w => .cpu .ora (.src (.mem (.absx w)))
  | .oraAbsY w => .cpu .ora (.src (.mem (.absy w)))
  | .oraIndX a => .cpu .ora (.src (.mem (.indx a)))
  | .oraIndY a => .cpu .ora (.src (.mem (.indy a)))
  | .eorImm v => .cpu .eor (.src (.imm v))
  | .eorZp a => .cpu .eor (.src (.mem (.zp a)))
  | .eorZpX a => .cpu .eor (.src (.mem (.zpx a)))
  | .eorAbs w => .cpu .eor (.src (.mem (.abs w)))
  | .eorAbsX w => .cpu .eor (.src (.mem (.absx w)))
  | .eorAbsY w => .cpu .eor (.src (.mem (.absy w)))
  | .eorIndX a => .cpu .eor (.src (.mem (.indx a)))
  | .eorIndY a => .cpu .eor (.src (.mem (.indy a)))
  | .bitZp a => .cpu .bit (.src (.mem (.zp a)))
  | .bitAbs w => .cpu .bit (.src (.mem (.abs w)))
  | .aslAcc => .cpu .asl .acc
  | .aslZp a => .cpu .asl (.src (.mem (.zp a)))
  | .aslZpX a => .cpu .asl (.src (.mem (.zpx a)))
  | .aslAbs w => .cpu .asl (.src (.mem (.abs w)))
  | .aslAbsX w => .cpu .asl (.src (.mem (.absx w)))
  | .lsrAcc => .cpu .lsr .acc
  | .lsrZp a => .cpu .lsr (.src (.mem (.zp a)))
  | .lsrZpX a => .cpu .lsr (.src (.mem (.zpx a)))
  | .lsrAbs w => .cpu .lsr (.src (.mem (.abs w)))
  | .lsrAbsX w => .cpu .lsr (.src (.mem (.absx w)))
  | .rolAcc => .cpu .rol .acc
  | .rolZp a => .cpu .rol (.src (.mem (.zp a)))
  | .rolZpX a => .cpu .rol (.src (.mem (.zpx a)))
  | .rolAbs w => .cpu .rol (.src (.mem (.abs w)))
  | .rolAbsX w => .cpu .rol (.src (.mem (.absx w)))
  | .rorAcc => .cpu .ror .acc
  | .rorZp a => .cpu .ror (.src (.mem (.zp a)))
  | .rorZpX a => .cpu .ror (.src (.mem (.zpx a)))
  | .rorAbs w => .cpu .ror (.src (.mem (.abs w)))
  | .rorAbsX w => .cpu .ror (.src (.mem (.absx w)))
  | .ldaImm v => .cpu .lda (.src (.imm v))
  | .ldaZp a => .cpu .lda (.src (.mem (.zp a)))
  | .ldaZpX a => .cpu .lda (.src (.mem (.zpx a)))
  | .ldaAbs w => .cpu .lda (.src (.mem (.abs w)))
  | .ldaAbsX w => .cpu .lda (.src (.mem (.absx w)))
  | .ldaAbsY w => .cpu .lda (.src (.mem (.absy w)))
  | .ldaIndX a => .cpu .lda (.src (.mem (.indx a)))
  | .ldaIndY a => .cpu .lda (.src (.mem (.indy a)))
  | .ldxImm v => .cpu .ldx (.src (.imm v))
  | .ldxZp a => .cpu .ldx (.src (.mem (.zp a)))
  | .ldxZpY a => .cpu .ldx (.src (.mem (.zpy a)))
  | .ldxAbs w => .cpu .ldx (.src (.mem (.abs w)))
  | .ldxAbsY w => .cpu .ldx (.src (.mem (.absy w)))
  | .ldyImm v => .cpu .ldy (.src (.imm v))
  | .ldyZp a => .cpu .ldy (.src (.mem (.zp a)))
  | .ldyZpX a => .cpu .ldy (.src (.mem (.zpx a)))
  | .ldyAbs w => .cpu .ldy (.src (.mem (.abs w)))
  | .ldyAbsX w => .cpu .ldy (.src (.mem (.absx w)))
  | .staZp a => .cpu .sta (.src (.mem (.zp a)))
  | .staZpX a => .cpu .sta (.src (.mem (.zpx a)))
  | .staAbs w => .cpu .sta (.src (.mem (.abs w)))
  | .staAbsX w => .cpu .sta (.src (.mem (.absx w)))
  | .staAbsY w => .cpu .sta (.src (.mem (.absy w)))
  | .staIndX a => .cpu .sta (.src (.mem (.indx a)))
  | .staIndY a => .cpu .sta (.src (.mem (.indy a)))
  | .stxZp a => .cpu .stx (.src (.mem (.zp a)))
  | .stxZpY a => .cpu .stx (.src (.mem (.zpy a)))
  | .stxAbs w => .cpu .stx (.src (.mem (.abs w)))
  | .styZp a => .cpu .sty (.src (.mem (.zp a)))
  | .styZpX a => .cpu .sty (.src (.mem (.zpx a)))
  | .styAbs w => .cpu .sty (.src (.mem (.abs w)))
  | .tax => .cpu .tax .imp
  | .tay => .cpu .tay .imp
  | .txa => .cpu .txa .imp
  | .tya => .cpu .tya .imp
  | .tsx => .cpu .tsx .imp
  | .txs => .cpu .txs .imp
  | .bcc off => .cpu .bcc (.rel off)
  | .bcs off => .cpu .bcs (.rel off)
  | .beq off => .cpu .beq (.rel off)
  | .bmi off => .cpu .bmi (.rel off)
  | .bne off => .cpu .bne (.rel off)
  | .bpl off => .cpu .bpl (.rel off)
  | .bvc off => .cpu .bvc (.rel off)
  | .bvs off => .cpu .bvs (.rel off)
  | .jmpAbs w => .cpu .jmp (.src (.mem (.abs w)))
  | .jmpInd w => .cpu .jmp (.ind w)
  | .jsr target => .cpu .jsr (.src (.mem (.abs target)))
  | .rts => .cpu .rts .imp
  | .brk => .cpu .brk .imp
  | .rti => .cpu .rti .imp
  | .nop => .cpu .nop .imp
  | .pha => .cpu .pha .imp
  | .php => .cpu .php .imp
  | .pla => .cpu .pla .imp
  | .plp => .cpu .plp .imp
  | .clc => .cpu .clc .imp
  | .sec => .cpu .sec .imp
  | .cli => .cpu .cli .imp
  | .sei => .cpu .sei .imp
  | .cld => .cpu .cld .imp
  | .sed => .cpu .sed .imp
  | .clv => .cpu .clv .imp
  | .vctr0 f => .vp (.vctr 0 f)
  | .vctr1 f => .vp (.vctr 1 f)
  | .vctr2 f => .vp (.vctr 2 f)
  | .vctr3 f => .vp (.vctr 3 f)
  | .vctr4 f => .vp (.vctr 4 f)
  | .vctr5 f => .vp (.vctr 5 f)
  | .vctr6 f => .vp (.vctr 6 f)
  | .vctr7 f => .vp (.vctr 7 f)
  | .vctr8 f => .vp (.vctr 8 f)
  | .vctr9 f => .vp (.vctr 9 f)
  | .labs f => .vp (.labs f)
  | .halt u => .vp (.halt u)
  | .jsrl t => .vp (.jsrl t)
  | .rtsl u => .vp (.rtsl u)
  | .jmpl t => .vp (.jmpl t)
  | .svec f => .vp (.svec f)

/-- The instruction set that an instruction belongs to. -/
def Instr.isa (i : Instr) : Isa :=
  match i.view with
  | .cpu _ _ => .cpu
  | .vp _ => .vp

/-- The words of a Vector Processor operation (46_vector_processor R324). -/
def VpOp.words : VpOp → Nat
  | .vctr _ _ => 2
  | .labs _ => 2
  | .halt _ => 1
  | .jsrl _ => 1
  | .rtsl _ => 1
  | .jmpl _ => 1
  | .svec _ => 1

/-- The length of an instruction in bytes (30_encoding R162, 46_vector_processor R324). -/
def Instr.length (i : Instr) : Nat :=
  match i.view with
  | .cpu _ m => m.length
  | .vp op => 2 * op.words

end Sys2Proof
end

