-- ==== Sys2Proof/Machine/Operands.lean ====
section
/-! DEFINITION. The operand forms: effective addresses, the page-crossing predicate and its penalty, and the shapes that
the meanings share (30_encoding R163, R175; 70_reset_and_hazards R472). -/

namespace Sys2Proof.Machine

/-- A pointer of two bytes in page 0, its second byte's address modulo 256 (30_encoding R163, modes indx and indy). -/
def State.zpPointer (s : State) (p : Byte) : Word := w16 (s.read (zext p)) (s.read (zext (p + 1)))

/-- The base address of an indexed mode, and the effective address of a mode without an index (30_encoding R163). -/
def State.baseAddr (s : State) : MemMode → Word
  | .zp a => zext a
  | .zpx a => zext (a + s.cpu.x)
  | .zpy a => zext (a + s.cpu.y)
  | .abs w => w
  | .absx w => w
  | .absy w => w
  | .indx a => s.zpPointer (a + s.cpu.x)
  | .indy a => s.zpPointer a

/-- `EA`: the effective address (30_encoding R163, R164). Zero-page sums wrap in page 0, 16-bit sums modulo 65536. -/
def State.effAddr (s : State) (m : MemMode) : Word :=
  match m with
  | .zp _ => s.baseAddr m
  | .zpx _ => s.baseAddr m
  | .zpy _ => s.baseAddr m
  | .abs _ => s.baseAddr m
  | .absx _ => s.baseAddr m + zext s.cpu.x
  | .absy _ => s.baseAddr m + zext s.cpu.y
  | .indx _ => s.baseAddr m
  | .indy _ => s.baseAddr m + zext s.cpu.y

/-- `crossed`: the effective address lies on another page than its base (30_encoding R163). -/
def State.crossed (s : State) (m : MemMode) : Bool := decide (hi (s.effAddr m) ≠ hi (s.baseAddr m))

/-- The address that JMP (abs) jumps to: the pointer's high byte comes from the same page (30_encoding R163,
43_branch_jump R279). -/
def State.indirectTarget (s : State) (ptr : Word) : Word :=
  w16 (s.read ptr) (s.read (w16 (lo ptr + 1) (hi ptr)))

/-- `Operand()` of an instruction that reads the immediate byte or memory (30_encoding R175). -/
def State.operand (s : State) : Operand → Byte
  | .imm v => v
  | .mem m => s.read (s.effAddr m)

/-- The penalty of a read instruction: 1 when the effective address crosses a page (70_reset_and_hazards R472). -/
def State.readPenalty (s : State) : Operand → Nat
  | .imm _ => 0
  | .mem m => (s.crossed m).toNat

/-- An instruction that reads its operand and gives it to `f`: `cyc` base cycles and the crossing penalty. -/
def readOp (f : Byte → State → State) (cyc : Nat) (o : Operand) (s : State) : Host.Outcome State Fault Refusal :=
  .next ((f (s.operand o) s).retire o.length (cyc + s.readPenalty o))

/-- An instruction that writes `v` at its effective address, with no read of it (30_encoding R175). -/
def storeOp (v : Byte) (cyc : Nat) (m : MemMode) (s : State) : Host.Outcome State Fault Refusal :=
  .next ((s.write (s.effAddr m) v).retire m.length cyc)

/-- A read-modify-write instruction on memory: one read and one write at the same address (30_encoding R175). -/
def modifyMem (f : Flags → Byte → Byte × Flags) (cyc : Nat) (m : MemMode) (s : State) :
    Host.Outcome State Fault Refusal :=
  let r := f s.cpu.p (s.read (s.effAddr m))
  .next (((s.write (s.effAddr m) r.1).setP r.2).retire m.length cyc)

/-- A shift or rotate of the accumulator (30_encoding R175, mode acc). -/
def modifyAcc (f : Flags → Byte → Byte × Flags) (cyc : Nat) (s : State) : Host.Outcome State Fault Refusal :=
  let r := f s.cpu.p s.cpu.a
  .next (((s.setA r.1).setP r.2).retire 1 cyc)

/-- An implied-mode instruction that is no control transfer. -/
def impliedOp (g : State → State) (cyc : Nat) (s : State) : Host.Outcome State Fault Refusal :=
  .next ((g s).retire 1 cyc)

/-- `Branch(cond)`: the offset is relative to the next instruction; one cycle more when taken, two when the target lies
on another page than the next instruction (43_branch_jump R270). -/
def branchOp (cond : Bool) (cyc : Nat) (off : Byte) (s : State) : Host.Outcome State Fault Refusal :=
  let pcn := s.cpu.pc + 2
  let target := pcn + s8 off
  if cond then .next ((s.setPC target).setCycles (cyc + 1 + (decide (hi target ≠ hi pcn)).toNat))
  else .next ((s.setPC pcn).setCycles cyc)

end Sys2Proof.Machine
end

