-- ==== Sys2Proof/Machine/Arithmetic.lean ====
section
/-! DEFINITION. The arithmetic instructions (40_arithmetic.md): one meaning per opcode, each with the base
cycles of its row (70_reset_and_hazards R471). -/

namespace Sys2Proof.Machine

/-- ADC on the value `m` (R201). -/
def adcStep (m : Byte) (s : State) : State :=
  let r := adcResult s.cpu.a m s.cpu.p
  (s.setA r.1).setP r.2

/-- SBC on the value `m` (R202). -/
def sbcStep (m : Byte) (s : State) : State :=
  let r := sbcResult s.cpu.a m s.cpu.p
  (s.setA r.1).setP r.2

/-- CMP with the value `m` (R203). -/
def cmpStep (m : Byte) (s : State) : State := s.setP (compareFlags s.cpu.a m s.cpu.p)

/-- CPX with the value `m` (R204). -/
def cpxStep (m : Byte) (s : State) : State := s.setP (compareFlags s.cpu.x m s.cpu.p)

/-- CPY with the value `m` (R205). -/
def cpyStep (m : Byte) (s : State) : State := s.setP (compareFlags s.cpu.y m s.cpu.p)

/-- INX (R208). -/
def inxStep (s : State) : State := (s.setX (s.cpu.x + 1)).setNZ (s.cpu.x + 1)

/-- INY (R209). -/
def inyStep (s : State) : State := (s.setY (s.cpu.y + 1)).setNZ (s.cpu.y + 1)

/-- DEX (R210). -/
def dexStep (s : State) : State := (s.setX (s.cpu.x - 1)).setNZ (s.cpu.x - 1)

/-- DEY (R211). -/
def deyStep (s : State) : State := (s.setY (s.cpu.y - 1)).setNZ (s.cpu.y - 1)

/-- ADC immediate, opcode 0x69 (R201). -/
def execAdcImm (v : Byte) (s : State) : Host.Outcome State Fault Refusal :=
  readOp adcStep 2 (.imm v) s

/-- ADC zero page, opcode 0x65 (R201). -/
def execAdcZp (a : Byte) (s : State) : Host.Outcome State Fault Refusal :=
  readOp adcStep 3 (.mem (.zp a)) s

/-- ADC zero page,X, opcode 0x75 (R201). -/
def execAdcZpX (a : Byte) (s : State) : Host.Outcome State Fault Refusal :=
  readOp adcStep 4 (.mem (.zpx a)) s

/-- ADC absolute, opcode 0x6D (R201). -/
def execAdcAbs (w : Word) (s : State) : Host.Outcome State Fault Refusal :=
  readOp adcStep 4 (.mem (.abs w)) s

/-- ADC absolute,X, opcode 0x7D (R201). -/
def execAdcAbsX (w : Word) (s : State) : Host.Outcome State Fault Refusal :=
  readOp adcStep 4 (.mem (.absx w)) s

/-- ADC absolute,Y, opcode 0x79 (R201). -/
def execAdcAbsY (w : Word) (s : State) : Host.Outcome State Fault Refusal :=
  readOp adcStep 4 (.mem (.absy w)) s

/-- ADC (zp,X), opcode 0x61 (R201). -/
def execAdcIndX (a : Byte) (s : State) : Host.Outcome State Fault Refusal :=
  readOp adcStep 6 (.mem (.indx a)) s

/-- ADC (zp),Y, opcode 0x71 (R201). -/
def execAdcIndY (a : Byte) (s : State) : Host.Outcome State Fault Refusal :=
  readOp adcStep 5 (.mem (.indy a)) s

/-- SBC immediate, opcode 0xE9 (R202). -/
def execSbcImm (v : Byte) (s : State) : Host.Outcome State Fault Refusal :=
  readOp sbcStep 2 (.imm v) s

/-- SBC zero page, opcode 0xE5 (R202). -/
def execSbcZp (a : Byte) (s : State) : Host.Outcome State Fault Refusal :=
  readOp sbcStep 3 (.mem (.zp a)) s

/-- SBC zero page,X, opcode 0xF5 (R202). -/
def execSbcZpX (a : Byte) (s : State) : Host.Outcome State Fault Refusal :=
  readOp sbcStep 4 (.mem (.zpx a)) s

/-- SBC absolute, opcode 0xED (R202). -/
def execSbcAbs (w : Word) (s : State) : Host.Outcome State Fault Refusal :=
  readOp sbcStep 4 (.mem (.abs w)) s

/-- SBC absolute,X, opcode 0xFD (R202). -/
def execSbcAbsX (w : Word) (s : State) : Host.Outcome State Fault Refusal :=
  readOp sbcStep 4 (.mem (.absx w)) s

/-- SBC absolute,Y, opcode 0xF9 (R202). -/
def execSbcAbsY (w : Word) (s : State) : Host.Outcome State Fault Refusal :=
  readOp sbcStep 4 (.mem (.absy w)) s

/-- SBC (zp,X), opcode 0xE1 (R202). -/
def execSbcIndX (a : Byte) (s : State) : Host.Outcome State Fault Refusal :=
  readOp sbcStep 6 (.mem (.indx a)) s

/-- SBC (zp),Y, opcode 0xF1 (R202). -/
def execSbcIndY (a : Byte) (s : State) : Host.Outcome State Fault Refusal :=
  readOp sbcStep 5 (.mem (.indy a)) s

/-- CMP immediate, opcode 0xC9 (R203). -/
def execCmpImm (v : Byte) (s : State) : Host.Outcome State Fault Refusal :=
  readOp cmpStep 2 (.imm v) s

/-- CMP zero page, opcode 0xC5 (R203). -/
def execCmpZp (a : Byte) (s : State) : Host.Outcome State Fault Refusal :=
  readOp cmpStep 3 (.mem (.zp a)) s

/-- CMP zero page,X, opcode 0xD5 (R203). -/
def execCmpZpX (a : Byte) (s : State) : Host.Outcome State Fault Refusal :=
  readOp cmpStep 4 (.mem (.zpx a)) s

/-- CMP absolute, opcode 0xCD (R203). -/
def execCmpAbs (w : Word) (s : State) : Host.Outcome State Fault Refusal :=
  readOp cmpStep 4 (.mem (.abs w)) s

/-- CMP absolute,X, opcode 0xDD (R203). -/
def execCmpAbsX (w : Word) (s : State) : Host.Outcome State Fault Refusal :=
  readOp cmpStep 4 (.mem (.absx w)) s

/-- CMP absolute,Y, opcode 0xD9 (R203). -/
def execCmpAbsY (w : Word) (s : State) : Host.Outcome State Fault Refusal :=
  readOp cmpStep 4 (.mem (.absy w)) s

/-- CMP (zp,X), opcode 0xC1 (R203). -/
def execCmpIndX (a : Byte) (s : State) : Host.Outcome State Fault Refusal :=
  readOp cmpStep 6 (.mem (.indx a)) s

/-- CMP (zp),Y, opcode 0xD1 (R203). -/
def execCmpIndY (a : Byte) (s : State) : Host.Outcome State Fault Refusal :=
  readOp cmpStep 5 (.mem (.indy a)) s

/-- CPX immediate, opcode 0xE0 (R204). -/
def execCpxImm (v : Byte) (s : State) : Host.Outcome State Fault Refusal :=
  readOp cpxStep 2 (.imm v) s

/-- CPX zero page, opcode 0xE4 (R204). -/
def execCpxZp (a : Byte) (s : State) : Host.Outcome State Fault Refusal :=
  readOp cpxStep 3 (.mem (.zp a)) s

/-- CPX absolute, opcode 0xEC (R204). -/
def execCpxAbs (w : Word) (s : State) : Host.Outcome State Fault Refusal :=
  readOp cpxStep 4 (.mem (.abs w)) s

/-- CPY immediate, opcode 0xC0 (R205). -/
def execCpyImm (v : Byte) (s : State) : Host.Outcome State Fault Refusal :=
  readOp cpyStep 2 (.imm v) s

/-- CPY zero page, opcode 0xC4 (R205). -/
def execCpyZp (a : Byte) (s : State) : Host.Outcome State Fault Refusal :=
  readOp cpyStep 3 (.mem (.zp a)) s

/-- CPY absolute, opcode 0xCC (R205). -/
def execCpyAbs (w : Word) (s : State) : Host.Outcome State Fault Refusal :=
  readOp cpyStep 4 (.mem (.abs w)) s

/-- INC zero page, opcode 0xE6 (R206). -/
def execIncZp (a : Byte) (s : State) : Host.Outcome State Fault Refusal :=
  modifyMem incResult 5 (.zp a) s

/-- INC zero page,X, opcode 0xF6 (R206). -/
def execIncZpX (a : Byte) (s : State) : Host.Outcome State Fault Refusal :=
  modifyMem incResult 6 (.zpx a) s

/-- INC absolute, opcode 0xEE (R206). -/
def execIncAbs (w : Word) (s : State) : Host.Outcome State Fault Refusal :=
  modifyMem incResult 6 (.abs w) s

/-- INC absolute,X, opcode 0xFE (R206). -/
def execIncAbsX (w : Word) (s : State) : Host.Outcome State Fault Refusal :=
  modifyMem incResult 7 (.absx w) s

/-- DEC zero page, opcode 0xC6 (R207). -/
def execDecZp (a : Byte) (s : State) : Host.Outcome State Fault Refusal :=
  modifyMem decResult 5 (.zp a) s

/-- DEC zero page,X, opcode 0xD6 (R207). -/
def execDecZpX (a : Byte) (s : State) : Host.Outcome State Fault Refusal :=
  modifyMem decResult 6 (.zpx a) s

/-- DEC absolute, opcode 0xCE (R207). -/
def execDecAbs (w : Word) (s : State) : Host.Outcome State Fault Refusal :=
  modifyMem decResult 6 (.abs w) s

/-- DEC absolute,X, opcode 0xDE (R207). -/
def execDecAbsX (w : Word) (s : State) : Host.Outcome State Fault Refusal :=
  modifyMem decResult 7 (.absx w) s

/-- INX implied, opcode 0xE8 (R208). -/
def execInx (s : State) : Host.Outcome State Fault Refusal :=
  impliedOp inxStep 2 s

/-- INY implied, opcode 0xC8 (R209). -/
def execIny (s : State) : Host.Outcome State Fault Refusal :=
  impliedOp inyStep 2 s

/-- DEX implied, opcode 0xCA (R210). -/
def execDex (s : State) : Host.Outcome State Fault Refusal :=
  impliedOp dexStep 2 s

/-- DEY implied, opcode 0x88 (R211). -/
def execDey (s : State) : Host.Outcome State Fault Refusal :=
  impliedOp deyStep 2 s

end Sys2Proof.Machine
end

