-- ==== Sys2Proof/Machine/Control.lean ====
section
/-! DEFINITION. The branches, jumps, subroutine and system instructions (43_branch_jump.md): one meaning per opcode, each with the base
cycles of its row (70_reset_and_hazards R471). -/

namespace Sys2Proof.Machine

/-- BCC relative, opcode 0x90 (R271). -/
def execBcc (off : Byte) (s : State) : Host.Outcome State Fault Refusal :=
  branchOp (!s.cpu.p.c) 2 off s

/-- BCS relative, opcode 0xB0 (R272). -/
def execBcs (off : Byte) (s : State) : Host.Outcome State Fault Refusal :=
  branchOp s.cpu.p.c 2 off s

/-- BEQ relative, opcode 0xF0 (R273). -/
def execBeq (off : Byte) (s : State) : Host.Outcome State Fault Refusal :=
  branchOp s.cpu.p.z 2 off s

/-- BMI relative, opcode 0x30 (R274). -/
def execBmi (off : Byte) (s : State) : Host.Outcome State Fault Refusal :=
  branchOp s.cpu.p.n 2 off s

/-- BNE relative, opcode 0xD0 (R275). -/
def execBne (off : Byte) (s : State) : Host.Outcome State Fault Refusal :=
  branchOp (!s.cpu.p.z) 2 off s

/-- BPL relative, opcode 0x10 (R276). -/
def execBpl (off : Byte) (s : State) : Host.Outcome State Fault Refusal :=
  branchOp (!s.cpu.p.n) 2 off s

/-- BVC relative, opcode 0x50 (R277). -/
def execBvc (off : Byte) (s : State) : Host.Outcome State Fault Refusal :=
  branchOp (!s.cpu.p.v) 2 off s

/-- BVS relative, opcode 0x70 (R278). -/
def execBvs (off : Byte) (s : State) : Host.Outcome State Fault Refusal :=
  branchOp s.cpu.p.v 2 off s

/-- JMP absolute, opcode 0x4C (R279). -/
def execJmpAbs (w : Word) (s : State) : Host.Outcome State Fault Refusal :=
  .next ((s.setPC w).setCycles 3)

/-- JMP (abs), opcode 0x6C (R279). The pointer's second byte comes from the same page. -/
def execJmpInd (w : Word) (s : State) : Host.Outcome State Fault Refusal :=
  .next ((s.setPC (s.indirectTarget w)).setCycles 5)

/-- JSR absolute, opcode 0x20 (R280). The return address is that of JSR's last byte, and the target's high byte is
read after the pushes, so the decoded high byte in `target` is not used. -/
def execJsr (target : Word) (s : State) : Host.Outcome State Fault Refusal :=
  let t := s.pushWord (s.cpu.pc + 2)
  .next ((t.setPC (w16 (lo target) (t.read (s.cpu.pc + 2)))).setCycles 6)

/-- RTS implied, opcode 0x60 (R281). The +1 undoes JSR's push of its last byte's address. -/
def execRts (s : State) : Host.Outcome State Fault Refusal :=
  let t := s.pop
  .next ((t.pop.setPC (w16 s.pulled t.pulled + 1)).setCycles 6)

/-- BRK implied, opcode 0x00 (R282). The return address skips the padding byte. -/
def execBrk (s : State) : Host.Outcome State Fault Refusal :=
  .next ((s.enterVector (s.cpu.pc + 2) true irqVector).setCycles 7)

/-- RTI implied, opcode 0x40 (R283). -/
def execRti (s : State) : Host.Outcome State Fault Refusal :=
  .next (s.returnFromInterrupt.setCycles 6)

/-- NOP implied, opcode 0xEA (R284). -/
def execNop (s : State) : Host.Outcome State Fault Refusal :=
  impliedOp (fun t => t) 2 s

end Sys2Proof.Machine
end

