-- ==== Sys2Proof/Machine/FlagOps.lean ====
section
/-! DEFINITION. The flag instructions (45_flags.md): one meaning per opcode, each with the base
cycles of its row (70_reset_and_hazards R471). -/

namespace Sys2Proof.Machine

/-- CLC (R310). -/
def clcStep (s : State) : State := s.setP { s.cpu.p with c := false }

/-- SEC (R311). -/
def secStep (s : State) : State := s.setP { s.cpu.p with c := true }

/-- CLI (R312). -/
def cliStep (s : State) : State := s.setP { s.cpu.p with i := false }

/-- SEI (R313). -/
def seiStep (s : State) : State := s.setP { s.cpu.p with i := true }

/-- CLD (R314). -/
def cldStep (s : State) : State := s.setP { s.cpu.p with d := false }

/-- SED (R315). -/
def sedStep (s : State) : State := s.setP { s.cpu.p with d := true }

/-- CLV (R316). -/
def clvStep (s : State) : State := s.setP { s.cpu.p with v := false }

/-- CLC implied, opcode 0x18 (R310). -/
def execClc (s : State) : Host.Outcome State Fault Refusal :=
  impliedOp clcStep 2 s

/-- SEC implied, opcode 0x38 (R311). -/
def execSec (s : State) : Host.Outcome State Fault Refusal :=
  impliedOp secStep 2 s

/-- CLI implied, opcode 0x58 (R312). -/
def execCli (s : State) : Host.Outcome State Fault Refusal :=
  impliedOp cliStep 2 s

/-- SEI implied, opcode 0x78 (R313). -/
def execSei (s : State) : Host.Outcome State Fault Refusal :=
  impliedOp seiStep 2 s

/-- CLD implied, opcode 0xD8 (R314). -/
def execCld (s : State) : Host.Outcome State Fault Refusal :=
  impliedOp cldStep 2 s

/-- SED implied, opcode 0xF8 (R315). -/
def execSed (s : State) : Host.Outcome State Fault Refusal :=
  impliedOp sedStep 2 s

/-- CLV implied, opcode 0xB8 (R316). -/
def execClv (s : State) : Host.Outcome State Fault Refusal :=
  impliedOp clvStep 2 s

end Sys2Proof.Machine
end

