-- ==== Sys2Proof/Machine/LoadStore.lean ====
section
/-! DEFINITION. The load, store and register-transfer instructions (42_load_store.md): one meaning per opcode, each with the base
cycles of its row (70_reset_and_hazards R471). -/

namespace Sys2Proof.Machine

/-- LDA of the value `m` (R251). -/
def ldaStep (m : Byte) (s : State) : State := (s.setA m).setNZ m

/-- LDX of the value `m` (R252). -/
def ldxStep (m : Byte) (s : State) : State := (s.setX m).setNZ m

/-- LDY of the value `m` (R253). -/
def ldyStep (m : Byte) (s : State) : State := (s.setY m).setNZ m

/-- TAX (R257). -/
def taxStep (s : State) : State := (s.setX s.cpu.a).setNZ s.cpu.a

/-- TAY (R258). -/
def tayStep (s : State) : State := (s.setY s.cpu.a).setNZ s.cpu.a

/-- TXA (R259). -/
def txaStep (s : State) : State := (s.setA s.cpu.x).setNZ s.cpu.x

/-- TYA (R260). -/
def tyaStep (s : State) : State := (s.setA s.cpu.y).setNZ s.cpu.y

/-- TSX (R261). -/
def tsxStep (s : State) : State := (s.setX s.cpu.s).setNZ s.cpu.s

/-- TXS, the only transfer that leaves N and Z (R262). -/
def txsStep (s : State) : State := s.setS s.cpu.x

/-- LDA immediate, opcode 0xA9 (R251). -/
def execLdaImm (v : Byte) (s : State) : Host.Outcome State Fault Refusal :=
  readOp ldaStep 2 (.imm v) s

/-- LDA zero page, opcode 0xA5 (R251). -/
def execLdaZp (a : Byte) (s : State) : Host.Outcome State Fault Refusal :=
  readOp ldaStep 3 (.mem (.zp a)) s

/-- LDA zero page,X, opcode 0xB5 (R251). -/
def execLdaZpX (a : Byte) (s : State) : Host.Outcome State Fault Refusal :=
  readOp ldaStep 4 (.mem (.zpx a)) s

/-- LDA absolute, opcode 0xAD (R251). -/
def execLdaAbs (w : Word) (s : State) : Host.Outcome State Fault Refusal :=
  readOp ldaStep 4 (.mem (.abs w)) s

/-- LDA absolute,X, opcode 0xBD (R251). -/
def execLdaAbsX (w : Word) (s : State) : Host.Outcome State Fault Refusal :=
  readOp ldaStep 4 (.mem (.absx w)) s

/-- LDA absolute,Y, opcode 0xB9 (R251). -/
def execLdaAbsY (w : Word) (s : State) : Host.Outcome State Fault Refusal :=
  readOp ldaStep 4 (.mem (.absy w)) s

/-- LDA (zp,X), opcode 0xA1 (R251). -/
def execLdaIndX (a : Byte) (s : State) : Host.Outcome State Fault Refusal :=
  readOp ldaStep 6 (.mem (.indx a)) s

/-- LDA (zp),Y, opcode 0xB1 (R251). -/
def execLdaIndY (a : Byte) (s : State) : Host.Outcome State Fault Refusal :=
  readOp ldaStep 5 (.mem (.indy a)) s

/-- LDX immediate, opcode 0xA2 (R252). -/
def execLdxImm (v : Byte) (s : State) : Host.Outcome State Fault Refusal :=
  readOp ldxStep 2 (.imm v) s

/-- LDX zero page, opcode 0xA6 (R252). -/
def execLdxZp (a : Byte) (s : State) : Host.Outcome State Fault Refusal :=
  readOp ldxStep 3 (.mem (.zp a)) s

/-- LDX zero page,Y, opcode 0xB6 (R252). -/
def execLdxZpY (a : Byte) (s : State) : Host.Outcome State Fault Refusal :=
  readOp ldxStep 4 (.mem (.zpy a)) s

/-- LDX absolute, opcode 0xAE (R252). -/
def execLdxAbs (w : Word) (s : State) : Host.Outcome State Fault Refusal :=
  readOp ldxStep 4 (.mem (.abs w)) s

/-- LDX absolute,Y, opcode 0xBE (R252). -/
def execLdxAbsY (w : Word) (s : State) : Host.Outcome State Fault Refusal :=
  readOp ldxStep 4 (.mem (.absy w)) s

/-- LDY immediate, opcode 0xA0 (R253). -/
def execLdyImm (v : Byte) (s : State) : Host.Outcome State Fault Refusal :=
  readOp ldyStep 2 (.imm v) s

/-- LDY zero page, opcode 0xA4 (R253). -/
def execLdyZp (a : Byte) (s : State) : Host.Outcome State Fault Refusal :=
  readOp ldyStep 3 (.mem (.zp a)) s

/-- LDY zero page,X, opcode 0xB4 (R253). -/
def execLdyZpX (a : Byte) (s : State) : Host.Outcome State Fault Refusal :=
  readOp ldyStep 4 (.mem (.zpx a)) s

/-- LDY absolute, opcode 0xAC (R253). -/
def execLdyAbs (w : Word) (s : State) : Host.Outcome State Fault Refusal :=
  readOp ldyStep 4 (.mem (.abs w)) s

/-- LDY absolute,X, opcode 0xBC (R253). -/
def execLdyAbsX (w : Word) (s : State) : Host.Outcome State Fault Refusal :=
  readOp ldyStep 4 (.mem (.absx w)) s

/-- STA zero page, opcode 0x85 (R254). -/
def execStaZp (a : Byte) (s : State) : Host.Outcome State Fault Refusal :=
  storeOp s.cpu.a 3 (.zp a) s

/-- STA zero page,X, opcode 0x95 (R254). -/
def execStaZpX (a : Byte) (s : State) : Host.Outcome State Fault Refusal :=
  storeOp s.cpu.a 4 (.zpx a) s

/-- STA absolute, opcode 0x8D (R254). -/
def execStaAbs (w : Word) (s : State) : Host.Outcome State Fault Refusal :=
  storeOp s.cpu.a 4 (.abs w) s

/-- STA absolute,X, opcode 0x9D (R254). -/
def execStaAbsX (w : Word) (s : State) : Host.Outcome State Fault Refusal :=
  storeOp s.cpu.a 5 (.absx w) s

/-- STA absolute,Y, opcode 0x99 (R254). -/
def execStaAbsY (w : Word) (s : State) : Host.Outcome State Fault Refusal :=
  storeOp s.cpu.a 5 (.absy w) s

/-- STA (zp,X), opcode 0x81 (R254). -/
def execStaIndX (a : Byte) (s : State) : Host.Outcome State Fault Refusal :=
  storeOp s.cpu.a 6 (.indx a) s

/-- STA (zp),Y, opcode 0x91 (R254). -/
def execStaIndY (a : Byte) (s : State) : Host.Outcome State Fault Refusal :=
  storeOp s.cpu.a 6 (.indy a) s

/-- STX zero page, opcode 0x86 (R255). -/
def execStxZp (a : Byte) (s : State) : Host.Outcome State Fault Refusal :=
  storeOp s.cpu.x 3 (.zp a) s

/-- STX zero page,Y, opcode 0x96 (R255). -/
def execStxZpY (a : Byte) (s : State) : Host.Outcome State Fault Refusal :=
  storeOp s.cpu.x 4 (.zpy a) s

/-- STX absolute, opcode 0x8E (R255). -/
def execStxAbs (w : Word) (s : State) : Host.Outcome State Fault Refusal :=
  storeOp s.cpu.x 4 (.abs w) s

/-- STY zero page, opcode 0x84 (R256). -/
def execStyZp (a : Byte) (s : State) : Host.Outcome State Fault Refusal :=
  storeOp s.cpu.y 3 (.zp a) s

/-- STY zero page,X, opcode 0x94 (R256). -/
def execStyZpX (a : Byte) (s : State) : Host.Outcome State Fault Refusal :=
  storeOp s.cpu.y 4 (.zpx a) s

/-- STY absolute, opcode 0x8C (R256). -/
def execStyAbs (w : Word) (s : State) : Host.Outcome State Fault Refusal :=
  storeOp s.cpu.y 4 (.abs w) s

/-- TAX implied, opcode 0xAA (R257). -/
def execTax (s : State) : Host.Outcome State Fault Refusal :=
  impliedOp taxStep 2 s

/-- TAY implied, opcode 0xA8 (R258). -/
def execTay (s : State) : Host.Outcome State Fault Refusal :=
  impliedOp tayStep 2 s

/-- TXA implied, opcode 0x8A (R259). -/
def execTxa (s : State) : Host.Outcome State Fault Refusal :=
  impliedOp txaStep 2 s

/-- TYA implied, opcode 0x98 (R260). -/
def execTya (s : State) : Host.Outcome State Fault Refusal :=
  impliedOp tyaStep 2 s

/-- TSX implied, opcode 0xBA (R261). -/
def execTsx (s : State) : Host.Outcome State Fault Refusal :=
  impliedOp tsxStep 2 s

/-- TXS implied, opcode 0x9A (R262). -/
def execTxs (s : State) : Host.Outcome State Fault Refusal :=
  impliedOp txsStep 2 s

end Sys2Proof.Machine
end

