-- ==== Sys2Proof/Machine/Logic.lean ====
section
/-! DEFINITION. The logic, bit-test and shift instructions (41_logic.md): one meaning per opcode, each with the base
cycles of its row (70_reset_and_hazards R471). -/

namespace Sys2Proof.Machine

/-- AND with the value `m` (R230). -/
def andStep (m : Byte) (s : State) : State := (s.setA (s.cpu.a &&& m)).setNZ (s.cpu.a &&& m)

/-- ORA with the value `m` (R231). -/
def oraStep (m : Byte) (s : State) : State := (s.setA (s.cpu.a ||| m)).setNZ (s.cpu.a ||| m)

/-- EOR with the value `m` (R232). -/
def eorStep (m : Byte) (s : State) : State := (s.setA (s.cpu.a ^^^ m)).setNZ (s.cpu.a ^^^ m)

/-- BIT with the value `m`; A is unchanged (R233). -/
def bitStep (m : Byte) (s : State) : State := s.setP (bitFlags s.cpu.a m s.cpu.p)

/-- AND immediate, opcode 0x29 (R230). -/
def execAndImm (v : Byte) (s : State) : Host.Outcome State Fault Refusal :=
  readOp andStep 2 (.imm v) s

/-- AND zero page, opcode 0x25 (R230). -/
def execAndZp (a : Byte) (s : State) : Host.Outcome State Fault Refusal :=
  readOp andStep 3 (.mem (.zp a)) s

/-- AND zero page,X, opcode 0x35 (R230). -/
def execAndZpX (a : Byte) (s : State) : Host.Outcome State Fault Refusal :=
  readOp andStep 4 (.mem (.zpx a)) s

/-- AND absolute, opcode 0x2D (R230). -/
def execAndAbs (w : Word) (s : State) : Host.Outcome State Fault Refusal :=
  readOp andStep 4 (.mem (.abs w)) s

/-- AND absolute,X, opcode 0x3D (R230). -/
def execAndAbsX (w : Word) (s : State) : Host.Outcome State Fault Refusal :=
  readOp andStep 4 (.mem (.absx w)) s

/-- AND absolute,Y, opcode 0x39 (R230). -/
def execAndAbsY (w : Word) (s : State) : Host.Outcome State Fault Refusal :=
  readOp andStep 4 (.mem (.absy w)) s

/-- AND (zp,X), opcode 0x21 (R230). -/
def execAndIndX (a : Byte) (s : State) : Host.Outcome State Fault Refusal :=
  readOp andStep 6 (.mem (.indx a)) s

/-- AND (zp),Y, opcode 0x31 (R230). -/
def execAndIndY (a : Byte) (s : State) : Host.Outcome State Fault Refusal :=
  readOp andStep 5 (.mem (.indy a)) s

/-- ORA immediate, opcode 0x09 (R231). -/
def execOraImm (v : Byte) (s : State) : Host.Outcome State Fault Refusal :=
  readOp oraStep 2 (.imm v) s

/-- ORA zero page, opcode 0x05 (R231). -/
def execOraZp (a : Byte) (s : State) : Host.Outcome State Fault Refusal :=
  readOp oraStep 3 (.mem (.zp a)) s

/-- ORA zero page,X, opcode 0x15 (R231). -/
def execOraZpX (a : Byte) (s : State) : Host.Outcome State Fault Refusal :=
  readOp oraStep 4 (.mem (.zpx a)) s

/-- ORA absolute, opcode 0x0D (R231). -/
def execOraAbs (w : Word) (s : State) : Host.Outcome State Fault Refusal :=
  readOp oraStep 4 (.mem (.abs w)) s

/-- ORA absolute,X, opcode 0x1D (R231). -/
def execOraAbsX (w : Word) (s : State) : Host.Outcome State Fault Refusal :=
  readOp oraStep 4 (.mem (.absx w)) s

/-- ORA absolute,Y, opcode 0x19 (R231). -/
def execOraAbsY (w : Word) (s : State) : Host.Outcome State Fault Refusal :=
  readOp oraStep 4 (.mem (.absy w)) s

/-- ORA (zp,X), opcode 0x01 (R231). -/
def execOraIndX (a : Byte) (s : State) : Host.Outcome State Fault Refusal :=
  readOp oraStep 6 (.mem (.indx a)) s

/-- ORA (zp),Y, opcode 0x11 (R231). -/
def execOraIndY (a : Byte) (s : State) : Host.Outcome State Fault Refusal :=
  readOp oraStep 5 (.mem (.indy a)) s

/-- EOR immediate, opcode 0x49 (R232). -/
def execEorImm (v : Byte) (s : State) : Host.Outcome State Fault Refusal :=
  readOp eorStep 2 (.imm v) s

/-- EOR zero page, opcode 0x45 (R232). -/
def execEorZp (a : Byte) (s : State) : Host.Outcome State Fault Refusal :=
  readOp eorStep 3 (.mem (.zp a)) s

/-- EOR zero page,X, opcode 0x55 (R232). -/
def execEorZpX (a : Byte) (s : State) : Host.Outcome State Fault Refusal :=
  readOp eorStep 4 (.mem (.zpx a)) s

/-- EOR absolute, opcode 0x4D (R232). -/
def execEorAbs (w : Word) (s : State) : Host.Outcome State Fault Refusal :=
  readOp eorStep 4 (.mem (.abs w)) s

/-- EOR absolute,X, opcode 0x5D (R232). -/
def execEorAbsX (w : Word) (s : State) : Host.Outcome State Fault Refusal :=
  readOp eorStep 4 (.mem (.absx w)) s

/-- EOR absolute,Y, opcode 0x59 (R232). -/
def execEorAbsY (w : Word) (s : State) : Host.Outcome State Fault Refusal :=
  readOp eorStep 4 (.mem (.absy w)) s

/-- EOR (zp,X), opcode 0x41 (R232). -/
def execEorIndX (a : Byte) (s : State) : Host.Outcome State Fault Refusal :=
  readOp eorStep 6 (.mem (.indx a)) s

/-- EOR (zp),Y, opcode 0x51 (R232). -/
def execEorIndY (a : Byte) (s : State) : Host.Outcome State Fault Refusal :=
  readOp eorStep 5 (.mem (.indy a)) s

/-- BIT zero page, opcode 0x24 (R233). -/
def execBitZp (a : Byte) (s : State) : Host.Outcome State Fault Refusal :=
  readOp bitStep 3 (.mem (.zp a)) s

/-- BIT absolute, opcode 0x2C (R233). -/
def execBitAbs (w : Word) (s : State) : Host.Outcome State Fault Refusal :=
  readOp bitStep 4 (.mem (.abs w)) s

/-- ASL accumulator, opcode 0x0A (R234). -/
def execAslAcc (s : State) : Host.Outcome State Fault Refusal :=
  modifyAcc aslResult 2 s

/-- ASL zero page, opcode 0x06 (R234). -/
def execAslZp (a : Byte) (s : State) : Host.Outcome State Fault Refusal :=
  modifyMem aslResult 5 (.zp a) s

/-- ASL zero page,X, opcode 0x16 (R234). -/
def execAslZpX (a : Byte) (s : State) : Host.Outcome State Fault Refusal :=
  modifyMem aslResult 6 (.zpx a) s

/-- ASL absolute, opcode 0x0E (R234). -/
def execAslAbs (w : Word) (s : State) : Host.Outcome State Fault Refusal :=
  modifyMem aslResult 6 (.abs w) s

/-- ASL absolute,X, opcode 0x1E (R234). -/
def execAslAbsX (w : Word) (s : State) : Host.Outcome State Fault Refusal :=
  modifyMem aslResult 7 (.absx w) s

/-- LSR accumulator, opcode 0x4A (R235). -/
def execLsrAcc (s : State) : Host.Outcome State Fault Refusal :=
  modifyAcc lsrResult 2 s

/-- LSR zero page, opcode 0x46 (R235). -/
def execLsrZp (a : Byte) (s : State) : Host.Outcome State Fault Refusal :=
  modifyMem lsrResult 5 (.zp a) s

/-- LSR zero page,X, opcode 0x56 (R235). -/
def execLsrZpX (a : Byte) (s : State) : Host.Outcome State Fault Refusal :=
  modifyMem lsrResult 6 (.zpx a) s

/-- LSR absolute, opcode 0x4E (R235). -/
def execLsrAbs (w : Word) (s : State) : Host.Outcome State Fault Refusal :=
  modifyMem lsrResult 6 (.abs w) s

/-- LSR absolute,X, opcode 0x5E (R235). -/
def execLsrAbsX (w : Word) (s : State) : Host.Outcome State Fault Refusal :=
  modifyMem lsrResult 7 (.absx w) s

/-- ROL accumulator, opcode 0x2A (R236). -/
def execRolAcc (s : State) : Host.Outcome State Fault Refusal :=
  modifyAcc rolResult 2 s

/-- ROL zero page, opcode 0x26 (R236). -/
def execRolZp (a : Byte) (s : State) : Host.Outcome State Fault Refusal :=
  modifyMem rolResult 5 (.zp a) s

/-- ROL zero page,X, opcode 0x36 (R236). -/
def execRolZpX (a : Byte) (s : State) : Host.Outcome State Fault Refusal :=
  modifyMem rolResult 6 (.zpx a) s

/-- ROL absolute, opcode 0x2E (R236). -/
def execRolAbs (w : Word) (s : State) : Host.Outcome State Fault Refusal :=
  modifyMem rolResult 6 (.abs w) s

/-- ROL absolute,X, opcode 0x3E (R236). -/
def execRolAbsX (w : Word) (s : State) : Host.Outcome State Fault Refusal :=
  modifyMem rolResult 7 (.absx w) s

/-- ROR accumulator, opcode 0x6A (R237). -/
def execRorAcc (s : State) : Host.Outcome State Fault Refusal :=
  modifyAcc rorResult 2 s

/-- ROR zero page, opcode 0x66 (R237). -/
def execRorZp (a : Byte) (s : State) : Host.Outcome State Fault Refusal :=
  modifyMem rorResult 5 (.zp a) s

/-- ROR zero page,X, opcode 0x76 (R237). -/
def execRorZpX (a : Byte) (s : State) : Host.Outcome State Fault Refusal :=
  modifyMem rorResult 6 (.zpx a) s

/-- ROR absolute, opcode 0x6E (R237). -/
def execRorAbs (w : Word) (s : State) : Host.Outcome State Fault Refusal :=
  modifyMem rorResult 6 (.abs w) s

/-- ROR absolute,X, opcode 0x7E (R237). -/
def execRorAbsX (w : Word) (s : State) : Host.Outcome State Fault Refusal :=
  modifyMem rorResult 7 (.absx w) s

end Sys2Proof.Machine
end

