-- ==== Sys2Proof/Machine/Stack.lean ====
section
/-! DEFINITION. The stack instructions (44_stack.md): one meaning per opcode, each with the base
cycles of its row (70_reset_and_hazards R471). -/

namespace Sys2Proof.Machine

/-- PHA (R300). -/
def phaStep (s : State) : State := s.push s.cpu.a

/-- PHP: the pushed byte has bits 4 and 5 set (R301). -/
def phpStep (s : State) : State := s.push (s.cpu.p.pack true)

/-- PLA (R302). -/
def plaStep (s : State) : State := (s.pop.setA s.pulled).setNZ s.pulled

/-- PLP: every flag from the pulled byte (R303, 10_state R45). -/
def plpStep (s : State) : State := s.pop.setP (Flags.unpack s.pulled)

/-- PHA implied, opcode 0x48 (R300). -/
def execPha (s : State) : Host.Outcome State Fault Refusal :=
  impliedOp phaStep 3 s

/-- PHP implied, opcode 0x08 (R301). -/
def execPhp (s : State) : Host.Outcome State Fault Refusal :=
  impliedOp phpStep 3 s

/-- PLA implied, opcode 0x68 (R302). -/
def execPla (s : State) : Host.Outcome State Fault Refusal :=
  impliedOp plaStep 4 s

/-- PLP implied, opcode 0x28 (R303). -/
def execPlp (s : State) : Host.Outcome State Fault Refusal :=
  impliedOp plpStep 4 s

end Sys2Proof.Machine
end

