-- ==== Sys2Proof/Machine/VpOps.lean ====
section
/-! DEFINITION. The arithmetic of the Vector Processor: the effective scale and a vector's delta, and the shapes that its
meanings share (46_vector_processor R321-R326). -/

namespace Sys2Proof.Machine

/-- `EffScale(ls)`: the global scale plus the local scale modulo 16, and above 9 the smallest scale -1
(46_vector_processor R322). -/
def effScale (vscale ls : BitVec 4) : Int :=
  let t := (vscale.toNat + ls.toNat) % 16
  if 9 < t then -1 else t

/-- `Delta(sg, mag, e)`: sign, magnitude and `2^(e + 1)`, in units of 1/1024 (46_vector_processor R326). -/
def delta (sg : Bool) (mag : Nat) (e : Int) : Int :=
  (if sg then -1 else 1) * mag * 2 ^ (e + 1).toNat

/-- Move the beam to `(nx, ny)` under the coordinate policy and emit the segment from where it stood
(46_vector_processor R321, R325). -/
def State.moveBeam (s : State) (nx ny : Int) (z : BitVec 4) : State :=
  let x1 := Config.vpCoordPolicy nx
  let y1 := Config.vpCoordPolicy ny
  (s.setVp { s.vp with vx := x1, vy := y1 }).emit ⟨s.vp.vx, s.vp.vy, x1, y1, z⟩

/-- Advance the Vector Processor's program counter by `n` words modulo 4096 (46_vector_processor R323). -/
def State.advanceVpc (s : State) (n : Nat) : State :=
  s.setVp { s.vp with vpc := s.vp.vpc + BitVec.ofNat 12 n }

end Sys2Proof.Machine
end

