-- ==== Sys2Proof/Machine/VectorProcessor.lean ====
section
/-! DEFINITION. The instructions of the Vector Processor (46_vector_processor.md R330-R336): one meaning per row of the
opcode table. The Scheduler charges their cost (60_exceptions R430); the meanings change the VP, the segments and, for
HALT, the interrupt line. -/

namespace Sys2Proof.Machine

/-- A long vector with local scale `ls` (R330). -/
def vctrStep (ls : BitVec 4) (f : VctrFields) (s : State) : State :=
  let e := effScale s.vp.vscale ls
  (s.moveBeam (s.vp.vx + delta f.xsign f.dx.toNat e) (s.vp.vy + delta f.ysign f.dy.toNat e) f.z).advanceVpc 2

/-- Absolute position and global scale, a pen-up move (R331). -/
def labsStep (f : LabsFields) (s : State) : State :=
  let t := s.moveBeam (sext12 f.x * 1024) (sext12 f.y * 1024) 0
  (t.setVp { t.vp with vscale := f.s }).advanceVpc 2

/-- Halt and raise the interrupt line; `vpc` stays at the HALT word (R332, R344, 60_exceptions R410). -/
def haltStep (s : State) : State := (s.setVp { s.vp with halted := true }).setIrq true

/-- Subroutine call on the circular stack (R333, R338). -/
def jsrlStep (t : VAddr) (s : State) : State :=
  s.setVp { s.vp with vstack := s.vp.vstack.set s.vp.vsp (s.vp.vpc + 1), vsp := s.vp.vsp + 1, vpc := t }

/-- Subroutine return on the circular stack (R334, R338). -/
def rtslStep (s : State) : State :=
  s.setVp { s.vp with vsp := s.vp.vsp - 1, vpc := s.vp.vstack.get (s.vp.vsp - 1) }

/-- Jump (R335). -/
def jmplStep (t : VAddr) (s : State) : State := s.setVp { s.vp with vpc := t }

/-- The local scale of a short vector, 2..5 (R336). -/
def svecScale (f : SvecFields) : BitVec 4 := BitVec.ofNat 4 (2 + 2 * f.s1.toNat + f.s0.toNat)

/-- A short vector (R336). -/
def svecStep (f : SvecFields) (s : State) : State :=
  let e := effScale s.vp.vscale (svecScale f)
  (s.moveBeam (s.vp.vx + delta f.xsign (f.dxh.toNat * 256) e) (s.vp.vy + delta f.ysign (f.dyh.toNat * 256) e)
    f.z).advanceVpc 1

/-- VCTR, local scale 0, first word 0x0000 (R330). -/
def execVctr0 (f : VctrFields) (s : State) : Host.Outcome State Fault Refusal :=
  .next (vctrStep 0 f s)

/-- VCTR, local scale 1, first word 0x1000 (R330). -/
def execVctr1 (f : VctrFields) (s : State) : Host.Outcome State Fault Refusal :=
  .next (vctrStep 1 f s)

/-- VCTR, local scale 2, first word 0x2000 (R330). -/
def execVctr2 (f : VctrFields) (s : State) : Host.Outcome State Fault Refusal :=
  .next (vctrStep 2 f s)

/-- VCTR, local scale 3, first word 0x3000 (R330). -/
def execVctr3 (f : VctrFields) (s : State) : Host.Outcome State Fault Refusal :=
  .next (vctrStep 3 f s)

/-- VCTR, local scale 4, first word 0x4000 (R330). -/
def execVctr4 (f : VctrFields) (s : State) : Host.Outcome State Fault Refusal :=
  .next (vctrStep 4 f s)

/-- VCTR, local scale 5, first word 0x5000 (R330). -/
def execVctr5 (f : VctrFields) (s : State) : Host.Outcome State Fault Refusal :=
  .next (vctrStep 5 f s)

/-- VCTR, local scale 6, first word 0x6000 (R330). -/
def execVctr6 (f : VctrFields) (s : State) : Host.Outcome State Fault Refusal :=
  .next (vctrStep 6 f s)

/-- VCTR, local scale 7, first word 0x7000 (R330). -/
def execVctr7 (f : VctrFields) (s : State) : Host.Outcome State Fault Refusal :=
  .next (vctrStep 7 f s)

/-- VCTR, local scale 8, first word 0x8000 (R330). -/
def execVctr8 (f : VctrFields) (s : State) : Host.Outcome State Fault Refusal :=
  .next (vctrStep 8 f s)

/-- VCTR, local scale 9, first word 0x9000 (R330). -/
def execVctr9 (f : VctrFields) (s : State) : Host.Outcome State Fault Refusal :=
  .next (vctrStep 9 f s)

/-- LABS, first word 0xA000 (R331). -/
def execLabs (f : LabsFields) (s : State) : Host.Outcome State Fault Refusal :=
  .next (labsStep f s)

/-- HALT, first word 0xB000 (R332). -/
def execHalt (_u : BitVec 12) (s : State) : Host.Outcome State Fault Refusal :=
  .next (haltStep s)

/-- JSRL, first word 0xC000 (R333). -/
def execJsrl (t : VAddr) (s : State) : Host.Outcome State Fault Refusal :=
  .next (jsrlStep t s)

/-- RTSL, first word 0xD000 (R334). -/
def execRtsl (_u : BitVec 12) (s : State) : Host.Outcome State Fault Refusal :=
  .next (rtslStep s)

/-- JMPL, first word 0xE000 (R335). -/
def execJmpl (t : VAddr) (s : State) : Host.Outcome State Fault Refusal :=
  .next (jmplStep t s)

/-- SVEC, first word 0xF000 (R336). -/
def execSvec (f : SvecFields) (s : State) : Host.Outcome State Fault Refusal :=
  .next (svecStep f s)

end Sys2Proof.Machine
end

