-- ==== Sys2Proof/WellFormed.lean ====
section
/-! DEFINITION. Which instructions an agent may hold. Every operand has the width of its field by its type, so the one
check left is that the instruction belongs to the agent's own instruction set. -/

namespace Sys2Proof

/-- An instruction is well formed for an agent when it is of that agent's instruction set: the CPU's opcodes and the
Vector Processor's words are two encodings of two machines (00_scope R2, R3). -/
def Instr.wellFormed (isa : Isa) (i : Instr) : Bool := i.isa == isa

end Sys2Proof
end

