-- ==== Sys2Proof/Decode.lean ====
section
/-! DEFINITION. The decoders, total on any bytes and rejecting by name, and after them the encoder. The CPU's decoder is
the opcode map of 30_encoding R166; the encoder is written from the "Encoding" line of each mnemonic's own rule
(files 40 to 45), and both from 46_vector_processor R324 for the Vector Processor. -/

namespace Sys2Proof

/-- Why bytes are no instruction. -/
inductive DecodeError where
  /-- The byte is one of the 105 opcodes with no defined semantics (30_encoding R168, R170). -/
  | illegalOpcode (op : Byte)
  /-- The list of bytes ends before the instruction does. The machine never meets it: it fetches enough bytes. -/
  | truncated
deriving DecidableEq, Repr

/-- A cell of the opcode map: an instruction of one of the formats F1, F2, F3, waiting for its operand bytes
(30_encoding R161). -/
inductive Form where
  | f1 (i : Instr)
  | f2 (mk : Byte → Instr)
  | f3 (mk : Word → Instr)

/-- Row 0x of the opcode map (30_encoding R166). -/
def opcodeRow0 : List (Option Form) :=
  [some (.f1 .brk), some (.f2 .oraIndX), none, none,
   none, some (.f2 .oraZp), some (.f2 .aslZp), none,
   some (.f1 .php), some (.f2 .oraImm), some (.f1 .aslAcc), none,
   none, some (.f3 .oraAbs), some (.f3 .aslAbs), none]

/-- Row 1x of the opcode map (30_encoding R166). -/
def opcodeRow1 : List (Option Form) :=
  [some (.f2 .bpl), some (.f2 .oraIndY), none, none,
   none, some (.f2 .oraZpX), some (.f2 .aslZpX), none,
   some (.f1 .clc), some (.f3 .oraAbsY), none, none,
   none, some (.f3 .oraAbsX), some (.f3 .aslAbsX), none]

/-- Row 2x of the opcode map (30_encoding R166). -/
def opcodeRow2 : List (Option Form) :=
  [some (.f3 .jsr), some (.f2 .andIndX), none, none,
   some (.f2 .bitZp), some (.f2 .andZp), some (.f2 .rolZp), none,
   some (.f1 .plp), some (.f2 .andImm), some (.f1 .rolAcc), none,
   some (.f3 .bitAbs), some (.f3 .andAbs), some (.f3 .rolAbs), none]

/-- Row 3x of the opcode map (30_encoding R166). -/
def opcodeRow3 : List (Option Form) :=
  [some (.f2 .bmi), some (.f2 .andIndY), none, none,
   none, some (.f2 .andZpX), some (.f2 .rolZpX), none,
   some (.f1 .sec), some (.f3 .andAbsY), none, none,
   none, some (.f3 .andAbsX), some (.f3 .rolAbsX), none]

/-- Row 4x of the opcode map (30_encoding R166). -/
def opcodeRow4 : List (Option Form) :=
  [some (.f1 .rti), some (.f2 .eorIndX), none, none,
   none, some (.f2 .eorZp), some (.f2 .lsrZp), none,
   some (.f1 .pha), some (.f2 .eorImm), some (.f1 .lsrAcc), none,
   some (.f3 .jmpAbs), some (.f3 .eorAbs), some (.f3 .lsrAbs), none]

/-- Row 5x of the opcode map (30_encoding R166). -/
def opcodeRow5 : List (Option Form) :=
  [some (.f2 .bvc), some (.f2 .eorIndY), none, none,
   none, some (.f2 .eorZpX), some (.f2 .lsrZpX), none,
   some (.f1 .cli), some (.f3 .eorAbsY), none, none,
   none, some (.f3 .eorAbsX), some (.f3 .lsrAbsX), none]

/-- Row 6x of the opcode map (30_encoding R166). -/
def opcodeRow6 : List (Option Form) :=
  [some (.f1 .rts), some (.f2 .adcIndX), none, none,
   none, some (.f2 .adcZp), some (.f2 .rorZp), none,
   some (.f1 .pla), some (.f2 .adcImm), some (.f1 .rorAcc), none,
   some (.f3 .jmpInd), some (.f3 .adcAbs), some (.f3 .rorAbs), none]

/-- Row 7x of the opcode map (30_encoding R166). -/
def opcodeRow7 : List (Option Form) :=
  [some (.f2 .bvs), some (.f2 .adcIndY), none, none,
   none, some (.f2 .adcZpX), some (.f2 .rorZpX), none,
   some (.f1 .sei), some (.f3 .adcAbsY), none, none,
   none, some (.f3 .adcAbsX), some (.f3 .rorAbsX), none]

/-- Row 8x of the opcode map (30_encoding R166). -/
def opcodeRow8 : List (Option Form) :=
  [none, some (.f2 .staIndX), none, none,
   some (.f2 .styZp), some (.f2 .staZp), some (.f2 .stxZp), none,
   some (.f1 .dey), none, some (.f1 .txa), none,
   some (.f3 .styAbs), some (.f3 .staAbs), some (.f3 .stxAbs), none]

/-- Row 9x of the opcode map (30_encoding R166). -/
def opcodeRow9 : List (Option Form) :=
  [some (.f2 .bcc), some (.f2 .staIndY), none, none,
   some (.f2 .styZpX), some (.f2 .staZpX), some (.f2 .stxZpY), none,
   some (.f1 .tya), some (.f3 .staAbsY), some (.f1 .txs), none,
   none, some (.f3 .staAbsX), none, none]

/-- Row Ax of the opcode map (30_encoding R166). -/
def opcodeRowA : List (Option Form) :=
  [some (.f2 .ldyImm), some (.f2 .ldaIndX), some (.f2 .ldxImm), none,
   some (.f2 .ldyZp), some (.f2 .ldaZp), some (.f2 .ldxZp), none,
   some (.f1 .tay), some (.f2 .ldaImm), some (.f1 .tax), none,
   some (.f3 .ldyAbs), some (.f3 .ldaAbs), some (.f3 .ldxAbs), none]

/-- Row Bx of the opcode map (30_encoding R166). -/
def opcodeRowB : List (Option Form) :=
  [some (.f2 .bcs), some (.f2 .ldaIndY), none, none,
   some (.f2 .ldyZpX), some (.f2 .ldaZpX), some (.f2 .ldxZpY), none,
   some (.f1 .clv), some (.f3 .ldaAbsY), some (.f1 .tsx), none,
   some (.f3 .ldyAbsX), some (.f3 .ldaAbsX), some (.f3 .ldxAbsY), none]

/-- Row Cx of the opcode map (30_encoding R166). -/
def opcodeRowC : List (Option Form) :=
  [some (.f2 .cpyImm), some (.f2 .cmpIndX), none, none,
   some (.f2 .cpyZp), some (.f2 .cmpZp), some (.f2 .decZp), none,
   some (.f1 .iny), some (.f2 .cmpImm), some (.f1 .dex), none,
   some (.f3 .cpyAbs), some (.f3 .cmpAbs), some (.f3 .decAbs), none]

/-- Row Dx of the opcode map (30_encoding R166). -/
def opcodeRowD : List (Option Form) :=
  [some (.f2 .bne), some (.f2 .cmpIndY), none, none,
   none, some (.f2 .cmpZpX), some (.f2 .decZpX), none,
   some (.f1 .cld), some (.f3 .cmpAbsY), none, none,
   none, some (.f3 .cmpAbsX), some (.f3 .decAbsX), none]

/-- Row Ex of the opcode map (30_encoding R166). -/
def opcodeRowE : List (Option Form) :=
  [some (.f2 .cpxImm), some (.f2 .sbcIndX), none, none,
   some (.f2 .cpxZp), some (.f2 .sbcZp), some (.f2 .incZp), none,
   some (.f1 .inx), some (.f2 .sbcImm), some (.f1 .nop), none,
   some (.f3 .cpxAbs), some (.f3 .sbcAbs), some (.f3 .incAbs), none]

/-- Row Fx of the opcode map (30_encoding R166). -/
def opcodeRowF : List (Option Form) :=
  [some (.f2 .beq), some (.f2 .sbcIndY), none, none,
   none, some (.f2 .sbcZpX), some (.f2 .incZpX), none,
   some (.f1 .sed), some (.f3 .sbcAbsY), none, none,
   none, some (.f3 .sbcAbsX), some (.f3 .incAbsX), none]

/-- The opcode map, high nibble by row and low nibble by column (30_encoding R166). -/
def opcodeMap : List (List (Option Form)) :=
  [opcodeRow0, opcodeRow1, opcodeRow2, opcodeRow3, opcodeRow4, opcodeRow5, opcodeRow6, opcodeRow7] ++
  [opcodeRow8, opcodeRow9, opcodeRowA, opcodeRowB, opcodeRowC, opcodeRowD, opcodeRowE, opcodeRowF]

/-- The opcode map read at an opcode byte; `none` for the 105 bytes of 30_encoding R168. -/
def opcodeForm (op : Byte) : Option Form :=
  (opcodeMap.getD (op.toNat / 16) []).getD (op.toNat % 16) none

/-- Decode one CPU instruction from the front of a list of bytes (30_encoding R160-R162, R174). -/
def decodeCpu : List Byte → Except DecodeError (Instr × List Byte)
  | [] => .error .truncated
  | op :: rest =>
    match opcodeForm op with
    | none => .error (.illegalOpcode op)
    | some (.f1 i) => .ok (i, rest)
    | some (.f2 mk) =>
      match rest with
      | b1 :: rest' => .ok (mk b1, rest')
      | [] => .error .truncated
    | some (.f3 mk) =>
      match rest with
      | b1 :: b2 :: rest' => .ok (mk (w16 b1 b2), rest')
      | _ => .error .truncated

/-- VCTR's fields in its two words (46_vector_processor R324). -/
def vctrFields (w0 w1 : Word) : VctrFields :=
  { u0 := w0.getLsbD 11, ysign := w0.getLsbD 10, dy := w0.extractLsb' 0 10,
    z := w1.extractLsb' 12 4, u1 := w1.getLsbD 11, xsign := w1.getLsbD 10, dx := w1.extractLsb' 0 10 }

/-- LABS's fields in its two words (46_vector_processor R324). -/
def labsFields (w0 w1 : Word) : LabsFields :=
  { y := w0.extractLsb' 0 12, s := w1.extractLsb' 12 4, x := w1.extractLsb' 0 12 }

/-- SVEC's fields in its word (46_vector_processor R324). -/
def svecFields (w0 : Word) : SvecFields :=
  { s0 := w0.getLsbD 11, ysign := w0.getLsbD 10, dyh := w0.extractLsb' 8 2, z := w0.extractLsb' 4 4,
    s1 := w0.getLsbD 3, xsign := w0.getLsbD 2, dxh := w0.extractLsb' 0 2 }

/-- The Vector Processor's decoder on two words, the second of which a one-word instruction ignores. All sixteen values
of `w0[15:12]` are defined (46_vector_processor R324, R337). -/
def decodeVpWords (w0 w1 : Word) : Instr :=
  match (w0.extractLsb' 12 4).toNat with
  | 0 => .vctr0 (vctrFields w0 w1)
  | 1 => .vctr1 (vctrFields w0 w1)
  | 2 => .vctr2 (vctrFields w0 w1)
  | 3 => .vctr3 (vctrFields w0 w1)
  | 4 => .vctr4 (vctrFields w0 w1)
  | 5 => .vctr5 (vctrFields w0 w1)
  | 6 => .vctr6 (vctrFields w0 w1)
  | 7 => .vctr7 (vctrFields w0 w1)
  | 8 => .vctr8 (vctrFields w0 w1)
  | 9 => .vctr9 (vctrFields w0 w1)
  | 10 => .labs (labsFields w0 w1)
  | 11 => .halt (w0.extractLsb' 0 12)
  | 12 => .jsrl (w0.extractLsb' 0 12)
  | 13 => .rtsl (w0.extractLsb' 0 12)
  | 14 => .jmpl (w0.extractLsb' 0 12)
  | _ => .svec (svecFields w0)

/-- How many words the Vector Processor's instruction with first word `w0` has (46_vector_processor R324). -/
def vpWordCount (w0 : Word) : Nat :=
  if (w0.extractLsb' 12 4).toNat ≤ 10 then 2 else 1

/-- Decode one Vector Processor instruction from the front of a list of bytes, each word low byte first
(20_memory R107). -/
def decodeVp : List Byte → Except DecodeError (Instr × List Byte)
  | b0 :: b1 :: rest =>
    if vpWordCount (w16 b0 b1) = 1 then .ok (decodeVpWords (w16 b0 b1) 0, rest)
    else
      match rest with
      | b2 :: b3 :: rest' => .ok (decodeVpWords (w16 b0 b1) (w16 b2 b3), rest')
      | _ => .error .truncated
  | _ => .error .truncated

/-- The decoder of either agent. -/
def decode : Isa → List Byte → Except DecodeError (Instr × List Byte)
  | .cpu, bs => decodeCpu bs
  | .vp, bs => decodeVp bs

/-- Byte `k` of a number of `nbits` bits, bit 0 the least significant bit of byte 0. -/
def tableByte (nbits w k : Nat) : Byte := BitVec.ofNat 8 (w % 2 ^ nbits / 256 ^ k)

/-- Whether a row of `nbits` bits is one of the Vector Processor's: its rows have 16-bit words, the CPU's have an opcode
byte (spec/opcode_table.json). DESIGN CHOICE, safe: notes/assumptions/20.md. -/
def tableIsVp (nbits : Nat) : Bool := nbits == 16 || nbits == 32

/-- The instruction that the decoder reads from a row of spec/opcode_table.json whose bits are `w`; bits above `nbits`
are 0. The bytes of a word of the Vector Processor lie low byte first (20_memory R107). -/
def decodeTableWord (nbits w : Nat) : Option Instr :=
  let bytes := [tableByte nbits w 0, tableByte nbits w 1, tableByte nbits w 2, tableByte nbits w 3]
  match decode (if tableIsVp nbits then .vp else .cpu) bytes with
  | .ok (i, _) => some i
  | .error _ => none

/-- The two bytes of a word as they lie in memory, low byte first (20_memory R107, R108). -/
def wordBytes (w : Word) : List Byte := [lo w, hi w]

/-- The two words of a VCTR with local scale `op` (46_vector_processor R324). -/
def vctrBytes (op : Nat) (f : VctrFields) : List Byte :=
  wordBytes (BitVec.ofNat 16 (op * 4096 + f.u0.toNat * 2048 + f.ysign.toNat * 1024 + f.dy.toNat)) ++
  wordBytes (BitVec.ofNat 16 (f.z.toNat * 4096 + f.u1.toNat * 2048 + f.xsign.toNat * 1024 + f.dx.toNat))

/-- The two words of a LABS (46_vector_processor R324). -/
def labsBytes (f : LabsFields) : List Byte :=
  wordBytes (BitVec.ofNat 16 (10 * 4096 + f.y.toNat)) ++
  wordBytes (BitVec.ofNat 16 (f.s.toNat * 4096 + f.x.toNat))

/-- The word of an SVEC (46_vector_processor R324). -/
def svecBytes (f : SvecFields) : List Byte :=
  wordBytes (BitVec.ofNat 16 (15 * 4096 + f.s0.toNat * 2048 + f.ysign.toNat * 1024 + f.dyh.toNat * 256 +
    f.z.toNat * 16 + f.s1.toNat * 8 + f.xsign.toNat * 4 + f.dxh.toNat))

/-- The word of a Vector Processor instruction with opcode `op` and a 12-bit field (46_vector_processor R324). -/
def fieldBytes (op : Nat) (u : BitVec 12) : List Byte :=
  wordBytes (BitVec.ofNat 16 (op * 4096 + u.toNat))

/-- The bytes of an instruction in the order of memory: the opcode and its operand bytes (30_encoding R161), or the
Vector Processor's words, low byte first (46_vector_processor R324). -/
def encode : Instr → List Byte
  | .adcImm v => [0x69, v]
  | .adcZp a => [0x65, a]
  | .adcZpX a => [0x75, a]
  | .adcAbs w => [0x6D, lo w, hi w]
  | .adcAbsX w => [0x7D, lo w, hi w]
  | .adcAbsY w => [0x79, lo w, hi w]
  | .adcIndX a => [0x61, a]
  | .adcIndY a => [0x71, a]
  | .sbcImm v => [0xE9, v]
  | .sbcZp a => [0xE5, a]
  | .sbcZpX a => [0xF5, a]
  | .sbcAbs w => [0xED, lo w, hi w]
  | .sbcAbsX w => [0xFD, lo w, hi w]
  | .sbcAbsY w => [0xF9, lo w, hi w]
  | .sbcIndX a => [0xE1, a]
  | .sbcIndY a => [0xF1, a]
  | .cmpImm v => [0xC9, v]
  | .cmpZp a => [0xC5, a]
  | .cmpZpX a => [0xD5, a]
  | .cmpAbs w => [0xCD, lo w, hi w]
  | .cmpAbsX w => [0xDD, lo w, hi w]
  | .cmpAbsY w => [0xD9, lo w, hi w]
  | .cmpIndX a => [0xC1, a]
  | .cmpIndY a => [0xD1, a]
  | .cpxImm v => [0xE0, v]
  | .cpxZp a => [0xE4, a]
  | .cpxAbs w => [0xEC, lo w, hi w]
  | .cpyImm v => [0xC0, v]
  | .cpyZp a => [0xC4, a]
  | .cpyAbs w => [0xCC, lo w, hi w]
  | .incZp a => [0xE6, a]
  | .incZpX a => [0xF6, a]
  | .incAbs w => [0xEE, lo w, hi w]
  | .incAbsX w => [0xFE, lo w, hi w]
  | .decZp a => [0xC6, a]
  | .decZpX a => [0xD6, a]
  | .decAbs w => [0xCE, lo w, hi w]
  | .decAbsX w => [0xDE, lo w, hi w]
  | .inx => [0xE8]
  | .iny => [0xC8]
  | .dex => [0xCA]
  | .dey => [0x88]
  | .andImm v => [0x29, v]
  | .andZp a => [0x25, a]
  | .andZpX a => [0x35, a]
  | .andAbs w => [0x2D, lo w, hi w]
  | .andAbsX w => [0x3D, lo w, hi w]
  | .andAbsY w => [0x39, lo w, hi w]
  | .andIndX a => [0x21, a]
  | .andIndY a => [0x31, a]
  | .oraImm v => [0x09, v]
  | .oraZp a => [0x05, a]
  | .oraZpX a => [0x15, a]
  | .oraAbs w => [0x0D, lo w, hi w]
  | .oraAbsX w => [0x1D, lo w, hi w]
  | .oraAbsY w => [0x19, lo w, hi w]
  | .oraIndX a => [0x01, a]
  | .oraIndY a => [0x11, a]
  | .eorImm v => [0x49, v]
  | .eorZp a => [0x45, a]
  | .eorZpX a => [0x55, a]
  | .eorAbs w => [0x4D, lo w, hi w]
  | .eorAbsX w => [0x5D, lo w, hi w]
  | .eorAbsY w => [0x59, lo w, hi w]
  | .eorIndX a => [0x41, a]
  | .eorIndY a => [0x51, a]
  | .bitZp a => [0x24, a]
  | .bitAbs w => [0x2C, lo w, hi w]
  | .aslAcc => [0x0A]
  | .aslZp a => [0x06, a]
  | .aslZpX a => [0x16, a]
  | .aslAbs w => [0x0E, lo w, hi w]
  | .aslAbsX w => [0x1E, lo w, hi w]
  | .lsrAcc => [0x4A]
  | .lsrZp a => [0x46, a]
  | .lsrZpX a => [0x56, a]
  | .lsrAbs w => [0x4E, lo w, hi w]
  | .lsrAbsX w => [0x5E, lo w, hi w]
  | .rolAcc => [0x2A]
  | .rolZp a => [0x26, a]
  | .rolZpX a => [0x36, a]
  | .rolAbs w => [0x2E, lo w, hi w]
  | .rolAbsX w => [0x3E, lo w, hi w]
  | .rorAcc => [0x6A]
  | .rorZp a => [0x66, a]
  | .rorZpX a => [0x76, a]
  | .rorAbs w => [0x6E, lo w, hi w]
  | .rorAbsX w => [0x7E, lo w, hi w]
  | .ldaImm v => [0xA9, v]
  | .ldaZp a => [0xA5, a]
  | .ldaZpX a => [0xB5, a]
  | .ldaAbs w => [0xAD, lo w, hi w]
  | .ldaAbsX w => [0xBD, lo w, hi w]
  | .ldaAbsY w => [0xB9, lo w, hi w]
  | .ldaIndX a => [0xA1, a]
  | .ldaIndY a => [0xB1, a]
  | .ldxImm v => [0xA2, v]
  | .ldxZp a => [0xA6, a]
  | .ldxZpY a => [0xB6, a]
  | .ldxAbs w => [0xAE, lo w, hi w]
  | .ldxAbsY w => [0xBE, lo w, hi w]
  | .ldyImm v => [0xA0, v]
  | .ldyZp a => [0xA4, a]
  | .ldyZpX a => [0xB4, a]
  | .ldyAbs w => [0xAC, lo w, hi w]
  | .ldyAbsX w => [0xBC, lo w, hi w]
  | .staZp a => [0x85, a]
  | .staZpX a => [0x95, a]
  | .staAbs w => [0x8D, lo w, hi w]
  | .staAbsX w => [0x9D, lo w, hi w]
  | .staAbsY w => [0x99, lo w, hi w]
  | .staIndX a => [0x81, a]
  | .staIndY a => [0x91, a]
  | .stxZp a => [0x86, a]
  | .stxZpY a => [0x96, a]
  | .stxAbs w => [0x8E, lo w, hi w]
  | .styZp a => [0x84, a]
  | .styZpX a => [0x94, a]
  | .styAbs w => [0x8C, lo w, hi w]
  | .tax => [0xAA]
  | .tay => [0xA8]
  | .txa => [0x8A]
  | .tya => [0x98]
  | .tsx => [0xBA]
  | .txs => [0x9A]
  | .bcc off => [0x90, off]
  | .bcs off => [0xB0, off]
  | .beq off => [0xF0, off]
  | .bmi off => [0x30, off]
  | .bne off => [0xD0, off]
  | .bpl off => [0x10, off]
  | .bvc off => [0x50, off]
  | .bvs off => [0x70, off]
  | .jmpAbs w => [0x4C, lo w, hi w]
  | .jmpInd w => [0x6C, lo w, hi w]
  | .jsr target => [0x20, lo target, hi target]
  | .rts => [0x60]
  | .brk => [0x00]
  | .rti => [0x40]
  | .nop => [0xEA]
  | .pha => [0x48]
  | .php => [0x08]
  | .pla => [0x68]
  | .plp => [0x28]
  | .clc => [0x18]
  | .sec => [0x38]
  | .cli => [0x58]
  | .sei => [0x78]
  | .cld => [0xD8]
  | .sed => [0xF8]
  | .clv => [0xB8]
  | .vctr0 f => vctrBytes 0 f
  | .vctr1 f => vctrBytes 1 f
  | .vctr2 f => vctrBytes 2 f
  | .vctr3 f => vctrBytes 3 f
  | .vctr4 f => vctrBytes 4 f
  | .vctr5 f => vctrBytes 5 f
  | .vctr6 f => vctrBytes 6 f
  | .vctr7 f => vctrBytes 7 f
  | .vctr8 f => vctrBytes 8 f
  | .vctr9 f => vctrBytes 9 f
  | .labs f => labsBytes f
  | .halt u => fieldBytes 11 u
  | .jsrl t => fieldBytes 12 t
  | .rtsl u => fieldBytes 13 u
  | .jmpl t => fieldBytes 14 t
  | .svec f => svecBytes f

end Sys2Proof
end

