-- ==== Sys2Proof/Machine/Fetch.lean ====
section
/-! DEFINITION. Fetching an instruction's bytes and decoding them, for each agent, and storing an instruction where the
next step fetches it. -/

namespace Sys2Proof.Machine

/-- The three bytes at the program counter, each address modulo 65536 (30_encoding R160, R174). A shorter instruction
ignores the later ones; no read has a side effect (notes/assumptions/18.md). -/
def State.fetchBytes (s : State) : List Byte :=
  [s.read s.cpu.pc, s.read (s.cpu.pc + 1), s.read (s.cpu.pc + 2)]

/-- The first word of the Vector Processor's next instruction (46_vector_processor R341). -/
def State.vpWord0 (s : State) : Word := s.vpRead s.vp.vpc

/-- The word after it, word addresses modulo 4096 (46_vector_processor R323). -/
def State.vpWord1 (s : State) : Word := s.vpRead (s.vp.vpc + 1)

/-- The Vector Processor's next instruction; every word decodes (46_vector_processor R337). -/
def State.vpFetch (s : State) : Instr := decodeVpWords s.vpWord0 s.vpWord1

/-- The four bytes of the two words at `vpc`, as the decoder of bytes reads them. -/
def State.vpFetchBytes (s : State) : List Byte := wordBytes s.vpWord0 ++ wordBytes s.vpWord1

/-- The VP cycles of the Vector Processor's next instruction (46_vector_processor R342). -/
def State.vpCost (s : State) : Nat := Config.vpCycles s.vpWord0

/-- Store a byte in the cell that backs an address, RAM, vector RAM or ROM; `none` where no store backs it. This is the
host's load of a program, no Bus write: it reaches ROM too. -/
def State.loadByte (s : State) (a : Word) (v : Byte) : Option State :=
  match s.bus.map.classify a with
  | .ram k => some (s.setRam (s.bus.ram.set (ramIndex s.bus.outLatch k) v))
  | .vram k => some (s.setVram (s.bus.vram.set k v))
  | .rom k => some (s.setRom (s.bus.rom.set k v))
  | _ => none

/-- Store bytes at consecutive addresses; `none` where some address has no store behind it. -/
def State.loadBytes (s : State) (a : Word) : List Byte → Option State
  | [] => some s
  | v :: vs =>
    match s.loadByte a v with
    | some t => t.loadBytes (a + 1) vs
    | none => none

/-- Ready the CPU to fetch: no fault, no interrupt that the next poll would take, the CPU's turn. -/
def State.readyCpu (s : State) : State :=
  let t := ((s.setFault none).setNmi false).setIrq (s.cpu.irqPending && s.cpu.p.i)
  t.setSched { t.sched with turn := .cpu }

/-- Place a CPU instruction at the program counter, or at 0x0000, with the program counter moved there, where no store
backs the bytes at the program counter (notes/assumptions/20.md). -/
def State.placeCpu (s : State) (bytes : List Byte) : State :=
  match s.loadBytes s.cpu.pc bytes with
  | some t => t
  | none =>
    match (s.setPC 0).loadBytes 0 bytes with
    | some t => t
    | none => s

/-- Place the words of a Vector Processor instruction at `vpc`, or at word 0 with `vpc` moved there where vector RAM or
ROM does not back both words (notes/assumptions/20.md). -/
def State.placeVp (s : State) (low high : List Byte) : State :=
  let there := do
    let t ← s.loadBytes (vpByteAddr s.vp.vpc) low
    t.loadBytes (vpByteAddr (s.vp.vpc + 1)) high
  match there with
  | some t => t
  | none =>
    match (s.setVp { s.vp with vpc := 0 }).loadBytes (vpByteAddr 0) (low ++ high) with
    | some t => t
    | none => s

/-- Give the Vector Processor the turn, running and with credit for its instruction; no fault. -/
def State.readyVp (s : State) : State :=
  let t := (s.setFault none).setVp { s.vp with halted := false }
  t.setSched { t.sched with turn := .vp, vpCredit := max t.sched.vpCredit t.vpCost }

end Sys2Proof.Machine
end

