-- ==== Sys2Proof/Machine/Scheduler.lean ====
section
/-! DEFINITION. The interrupt poll, the CPU step, the NMI timer, the Vector Processor's quantum and the frame
(60_exceptions R411-R431, 46_vector_processor R341). The machine's step runs one instruction at a time; `iteration` and
`advanceFrame` are the Scheduler's loop as 60_exceptions R430 writes it. -/

namespace Sys2Proof.Machine

/-- The poll at a step boundary: the state after the interrupt entry, NMI before IRQ, or `none` when neither is taken
(60_exceptions R411, R412, R415). -/
def State.pollInterrupt (s : State) : Option State :=
  if s.cpu.nmiPending then some ((s.setNmi false).interruptEntry nmiVector)
  else if s.cpu.irqPending && !s.cpu.p.i then some ((s.setIrq false).interruptEntry irqVector)
  else none

/-- `ExecuteInstruction()`: fetch, decode and run one instruction, or record the decode fault (30_encoding R174). -/
def cpuInstruction (s : State) : Host.Outcome State Fault Refusal :=
  match decode .cpu s.fetchBytes with
  | .ok (i, _) => exec i s
  | .error _ => .next s.raiseDecodeFault

/-- `Step()`: one interrupt entry or one instruction; its cycle count is left in `cpu.cycles` (60_exceptions R411). -/
def cpuStep (s : State) : Host.Outcome State Fault Refusal :=
  match s.pollInterrupt with
  | some t => .next t
  | none => cpuInstruction s

/-- Begin a frame with a snapshot: the two output lists empty, the budget shortened by the last overshoot
(60_exceptions R430). -/
def State.openFrame (s : State) (inp : Inputs) : State :=
  let t := (s.setSnapshot inp).setSound []
  t.setSched { t.sched with segments := [], budget := Config.frameCycles - t.sched.frameOvershoot, used := 0,
                            frameOpen := true }

/-- Begin the next frame if none is in progress, with the next snapshot the host supplied; when it supplied none, the
last one is held (DESIGN CHOICE, unsafe: notes/assumptions/11.md). -/
def State.beginFrame (s : State) : State :=
  if s.sched.frameOpen then s
  else
    match s.sched.pendingInputs with
    | [] => s.openFrame s.bus.snapshot
    | inp :: rest => (s.setSched { s.sched with pendingInputs := rest }).openFrame inp

/-- Add the step's cycles to the frame and to `cycleCount` (60_exceptions R430, 70_reset_and_hazards R470). -/
def State.addCycles (s : State) : State :=
  let t := s.setCycleCount (s.cpu.cycleCount + s.cpu.cycles)
  t.setSched { t.sched with used := t.sched.used + t.cpu.cycles }

/-- One turn of the NMI timer's loop: request an NMI unless the self-test line is on, and set the next phase
(60_exceptions R420). -/
def State.nmiTick (s : State) : State :=
  let t := s.setNmi (s.cpu.nmiPending || !s.in0Line 7)
  t.setSched { t.sched with nmiPhase := t.sched.nmiPhase + Config.nmiPeriod }

/-- The NMI timer's loop with at most `n` turns. -/
def State.nmiLoop : Nat → State → State
  | 0, s => s
  | n + 1, s => if s.sched.nmiPhase ≤ s.cpu.cycleCount then nmiLoop n s.nmiTick else s

/-- `NmiTimer()`: loop while `cycleCount ≥ nmiPhase` (60_exceptions R420). Each turn raises `nmiPhase`, so the bound is
never the reason the loop ends. -/
def State.nmiTimer (s : State) : State := State.nmiLoop (s.cpu.cycleCount + 1 - s.sched.nmiPhase) s

/-- Credit the Vector Processor with the step's cycles while it runs (60_exceptions R430). -/
def State.grantCredit (s : State) : State :=
  s.setSched { s.sched with
    vpCredit := if s.vp.halted then s.sched.vpCredit
                else s.sched.vpCredit + s.cpu.cycles * Config.vpClockRatio }

/-- End the frame when its budget is used up, and record the overshoot (60_exceptions R430, R431). -/
def SchedState.close (d : SchedState) : SchedState :=
  if d.used < d.budget then d else { d with frameOpen := false, frameOvershoot := d.used - d.budget }

/-- The frame's end, if it has come. -/
def State.closeFrame (s : State) : State := s.setSched s.sched.close

/-- Whether the Vector Processor's next instruction runs before the CPU's next step: it runs, and its credit covers the
instruction's whole cost (46_vector_processor R341). -/
def State.vpReady (s : State) : Bool := !s.vp.halted && decide (s.vpCost ≤ s.sched.vpCredit)

/-- Who runs next: the Vector Processor while it is ready, else the CPU, and then the frame may end
(46_vector_processor R341, 60_exceptions R430). -/
def State.handOver (s : State) : State :=
  s.setSched (if s.vpReady then { s.sched with turn := .vp } else ({ s.sched with turn := .cpu } : SchedState).close)

/-- What the Scheduler does after a CPU step: nothing after a decode fault, else the cycles, the NMI timer, the credit
and the hand-over (60_exceptions R400, R430). -/
def State.afterCpuStep (s : State) : State :=
  if s.cpu.fault.isSome then s else s.addCycles.nmiTimer.grantCredit.handOver

/-- What the Scheduler does after an instruction of the Vector Processor that cost `cost`: the credit shrinks, and a
halted Vector Processor loses the rest of it (46_vector_processor R341, 60_exceptions R430). -/
def State.afterVpInstr (s : State) (cost : Nat) : State :=
  (s.setSched { s.sched with vpCredit := if s.vp.halted then 0 else s.sched.vpCredit - cost }).handOver

/-- The CPU's turn: one CPU step and what the Scheduler does after it. -/
def cpuTurn (s : State) : Host.Outcome State Fault Refusal :=
  match cpuStep s with
  | .next t => .next t.afterCpuStep
  | .fault r => .fault r
  | .refused r => .refused r

/-- The Vector Processor's turn: one instruction and what the Scheduler does after it. -/
def vpTurn (s : State) : Host.Outcome State Fault Refusal :=
  match exec s.vpFetch s with
  | .next t => .next (t.afterVpInstr s.vpCost)
  | .fault r => .fault r
  | .refused r => .refused r

/-- `VpRun` with at most `n` instructions: the cycles used and the state. Segments are appended to the frame's list. -/
def vpRunLoop : Nat → Nat → State → Nat × State
  | 0, _, s => (0, s)
  | n + 1, budget, s =>
    if s.vp.halted then (0, s)
    else if budget < s.vpCost then (0, s)
    else
      match exec s.vpFetch s with
      | .next t => (s.vpCost + (vpRunLoop n (budget - s.vpCost) t).1, (vpRunLoop n (budget - s.vpCost) t).2)
      | .fault _ => (0, s)
      | .refused _ => (0, s)

/-- `VpRun(budget)`: run until HALT or until the next instruction's whole cost does not fit (46_vector_processor R341).
Every instruction costs at least one cycle, so `budget` instructions are enough. -/
def vpRun (budget : Nat) (s : State) : Nat × State := vpRunLoop budget budget s

/-- The Vector Processor's quantum after a CPU step (60_exceptions R430). -/
def State.vpQuantum (s : State) : State :=
  if s.vp.halted then s
  else
    let r := vpRun s.sched.vpCredit s
    r.2.setSched { r.2.sched with vpCredit := if r.2.vp.halted then 0 else s.sched.vpCredit - r.1 }

/-- One turn of the Scheduler's loop: a CPU step, its cycles, the NMI timer, and the Vector Processor's quantum
(60_exceptions R430). -/
def iteration (s : State) : Host.Outcome State Fault Refusal :=
  match cpuStep s with
  | .next t => .next (if t.cpu.fault.isSome then t else t.addCycles.nmiTimer.grantCredit.vpQuantum)
  | .fault r => .fault r
  | .refused r => .refused r

/-- The loop of `advance_frame` with at most `n` turns: until the budget is used, or a decode fault. -/
def frameLoop : Nat → State → Host.Outcome State Fault Refusal
  | 0, s => .next s
  | n + 1, s =>
    if s.sched.used < s.sched.budget then
      match iteration s with
      | .next t => if t.cpu.fault.isSome then .next t else frameLoop n t
      | .fault r => .fault r
      | .refused r => .refused r
    else .next s.closeFrame

/-- `advance_frame(inputs)`: one frame from its snapshot to the overshoot it leaves; the segments, the sound events, the
CPU state and the fault are in the state it answers (60_exceptions R430). Every turn uses at least one cycle, so one more
turn than the budget is enough. -/
def advanceFrame (inp : Inputs) (s : State) : Host.Outcome State Fault Refusal :=
  let t := s.openFrame inp
  frameLoop (t.sched.budget + 1) t

end Sys2Proof.Machine
end

