-- ==== Sys2Proof/Machine/Step.lean ====
section
/-! DEFINITION. The step of the machine: one CPU step or one instruction of the Vector Processor with what the Scheduler
does after it (60_exceptions R430), and the state in which the next step runs a given instruction. -/

namespace Sys2Proof.Machine

/-- One step. A machine whose fault register is not empty has none (10_state R51). On the CPU's turn a frame is begun if
none is in progress (60_exceptions R430, R431). -/
def step (s : State) : Host.Outcome State Fault Refusal :=
  match s.cpu.fault with
  | some f => .fault (.decodeFault f.pc f.op)
  | none =>
    match s.sched.turn with
    | .cpu => cpuTurn s.beginFrame
    | .vp => vpTurn s

/-- `s` with the instruction whose bits are `w` stored where the next step fetches, so that it runs exactly that one: a
CPU instruction at the program counter, a Vector Processor instruction at `vpc` (notes/assumptions/4.md and 20.md). -/
def State.withFetchWord (s : State) (nbits w : Nat) : State :=
  let low := [tableByte nbits w 0, tableByte nbits w 1]
  if tableIsVp nbits then (s.placeVp low [tableByte nbits w 2, tableByte nbits w 3]).readyVp
  else s.readyCpu.placeCpu (low ++ [tableByte nbits w 2])

end Sys2Proof.Machine
end

