-- ==== Sys2Proof/Machine/PowerOn.lean ====
section
/-! DEFINITION. The power-on sequence for any memory map, any ROM image and any draws (70_reset_and_hazards R450, R451, R452). -/

namespace Sys2Proof.Machine

/-- The power-on draws: the values the spec leaves unconstrained (00_scope R8, 10_state R57). -/
structure Draws where
  a : Byte
  x : Byte
  y : Byte
  s : Byte
  n : Bool
  v : Bool
  b : Bool
  d : Bool
  z : Bool
  c : Bool
  ram : Memory
  vram : Memory
deriving DecidableEq, Repr

/-- Every draw at 0: the one that `State.reset` takes (DESIGN CHOICE, unsafe: notes/assumptions/1.md and 2.md). -/
def Draws.zero : Draws :=
  { a := 0, x := 0, y := 0, s := 0, n := false, v := false, b := false, d := false, z := false, c := false,
    ram := ⟨[]⟩, vram := ⟨[]⟩ }

/-- The cells of a byte list that lies from offset `k` on, zero bytes not listed. -/
def imageCells : Nat → List Byte → List Host.Cell
  | _, [] => []
  | k, v :: vs => if v = 0 then imageCells (k + 1) vs else (k, v) :: imageCells (k + 1) vs

/-- The machine with its map, stores and draws in place, before the CPU's reset sequence (70_reset_and_hazards R450). -/
def State.loaded (map : MemoryMap) (image : List Byte) (d : Draws) : State :=
  { cpu := { CpuState.reset with
              a := d.a, x := d.x, y := d.y, s := d.s,
              p := { n := d.n, v := d.v, b := d.b, d := d.d, i := false, z := d.z, c := d.c } },
    bus := { BusState.reset with map := map, ram := d.ram, vram := d.vram, rom := ⟨imageCells 0 image⟩ },
    vp := VpState.reset,
    sched := SchedState.reset }

/-- The CPU's reset sequence: S less 3, I set, and the program counter from the reset vector
(70_reset_and_hazards R450). -/
def State.cpuReset (s : State) : State :=
  ((s.setS (s.cpu.s - 3)).setP { s.cpu.p with i := true }).setPC (s.read16 resetVector)

/-- `PowerOn(image, draws)` with the parameter `memoryMap`: a load fault for an image of another length, else the machine
(70_reset_and_hazards R450, R451; 20_memory R101, R111). -/
def powerOn (map : MemoryMap) (image : List Byte) (d : Draws) : Except Fault State :=
  if image.length = Config.romLength then .ok (State.loaded map image d).cpuReset
  else .error (.loadFault image.length)

end Sys2Proof.Machine
end

