-- ==== Sys2Proof/Safety.lean ====
section
/-! DEFINITION. The terms that claims about the machine use: its invariants, and the published tables that the meanings
are held against. -/

namespace Sys2Proof

/-- The addressing modes by name, without operand bytes (30_encoding R163). -/
inductive ModeName where
  | imp | acc | imm | zp | zpx | zpy | abs | absx | absy | indx | indy | ind | rel
deriving DecidableEq, Repr

/-- The mode that the operand bytes `b1` and `b2` make (30_encoding R161, R164: an absolute operand is `w16(b1, b2)`). -/
def ModeName.mode (n : ModeName) (b1 b2 : Byte) : Mode :=
  match n with
  | .imp => .imp
  | .acc => .acc
  | .imm => .src (.imm b1)
  | .zp => .src (.mem (.zp b1))
  | .zpx => .src (.mem (.zpx b1))
  | .zpy => .src (.mem (.zpy b1))
  | .abs => .src (.mem (.abs (w16 b1 b2)))
  | .absx => .src (.mem (.absx (w16 b1 b2)))
  | .absy => .src (.mem (.absy (w16 b1 b2)))
  | .indx => .src (.mem (.indx b1))
  | .indy => .src (.mem (.indy b1))
  | .ind => .ind (w16 b1 b2)
  | .rel => .rel b1

/-- What the "Encoding" line of a mnemonic's rule says: these opcodes with these modes decode to it, and no other
does. -/
def Mnemonic.HasOpcodes (k : Mnemonic) (l : List (Byte × ModeName)) : Prop :=
  ∀ op b1 b2 m, (∃ i rest, decode .cpu [op, b1, b2] = .ok (i, rest) ∧ i.view = .cpu k m) ↔
    ∃ n, (op, n) ∈ l ∧ m = n.mode b1 b2

/-- The mnemonics that read their operand, whose indexed forms pay the crossing penalty (70_reset_and_hazards R472), with
CPX, CPY and BIT, which have no indexed form. -/
def Mnemonic.reads (k : Mnemonic) : Bool :=
  k ∈ [.adc, .sbc, .cmp, .cpx, .cpy, .and, .ora, .eor, .bit, .lda, .ldx, .ldy]

/-- The stores. -/
def Mnemonic.stores (k : Mnemonic) : Bool := k ∈ [.sta, .stx, .sty]

/-- The read-modify-write instructions (30_encoding R175). -/
def Mnemonic.modifies (k : Mnemonic) : Bool := k ∈ [.inc, .dec, .asl, .lsr, .rol, .ror]

/-- The branches (43_branch_jump R270). -/
def Mnemonic.branches (k : Mnemonic) : Bool := k ∈ [.bcc, .bcs, .beq, .bmi, .bne, .bpl, .bvc, .bvs]

end Sys2Proof

namespace Sys2Proof.Machine

/-- What a row of a memory map names lies inside what backs it: the RAMs' sizes, the image, and the eight, eight and four
registers of IN0, IN1 and DSW (10_state R52; 20_memory R114). -/
def MapRow.inside (m : MemoryMap) (r : MapRow) : Bool :=
  match r.region with
  | .ram k => k + (r.last - r.first) < m.ramSize
  | .vram k => k + (r.last - r.first) < m.vramSize
  | .rom k => k + (r.last - r.first) < Config.romLength
  | .in0 n => n + (r.last - r.first) < 8
  | .in1 n => n + (r.last - r.first) < 8
  | .dsw n => n + (r.last - r.first) < 4
  | .dmago => true
  | .latch => true
  | .watchdog => true
  | .sound => true
  | .unmapped => true

/-- What the spec's other rules ask of a memory map, whichever the parameter is: ordered ranges that do not overlap
(20_memory R101), inside the stores (10_state R52) and with both swapped RAM pages or none (R113); a stack page of 256 RAM
bytes and the vectors in the image (R116); and no work RAM and no device in the Vector Processor's space
(46_vector_processor R323, R345). -/
structure MemoryMap.WellFormed (m : MemoryMap) : Prop where
  ordered : m.rows.Pairwise (fun r q => r.last < q.first)
  rows : ∀ r ∈ m.rows, r.first ≤ r.last ∧ r.last < 0x8000 ∧ r.inside m = true
  pages : m.ramSize ≤ 0x200 ∨ 0x400 ≤ m.ramSize
  stack : ∀ p : Byte, ∃ k, m.classify (stackAddr p) = .ram k
  slots : ∀ p q : Byte, m.classify (stackAddr p) = m.classify (stackAddr q) → p = q
  vectors : ∀ k < 6, ∃ j, m.classify (BitVec.ofNat 16 (0xFFFA + k)) = .rom j
  vpSpace : ∀ k, 0x4000 ≤ k → k < 0x6000 →
    (∃ j, m.regionAt k = .vram j) ∨ (∃ j, m.regionAt k = .rom j) ∨ m.regionAt k = .unmapped

/-- The memory map is well formed, and every backing store is in canonical form and inside its size (10_state R52: 1024,
2048 and 8192 bytes under the default map). -/
def State.MemoryCanonical (s : State) : Prop :=
  s.bus.map.WellFormed ∧ s.bus.ram.wf s.bus.map.ramSize ∧ s.bus.vram.wf s.bus.map.vramSize ∧
  s.bus.rom.wf Config.romLength

/-- The Scheduler's bookkeeping between steps: the turn is the Vector Processor's exactly when it runs and its credit
covers its next instruction; a halted Vector Processor holds no credit; an open frame has the shortened budget, not used
up when the CPU is to move; a frame is overshot by at most 6 cycles (46_vector_processor R341, 60_exceptions R430,
R431). -/
structure State.SchedulerOk (s : State) : Prop where
  turn : s.sched.turn = .vp ↔ s.vpReady = true
  credit : s.vp.halted = true → s.sched.vpCredit = 0
  budget : s.sched.frameOpen = true → s.sched.budget = Config.frameCycles - s.sched.frameOvershoot
  open_ : s.sched.frameOpen = true → s.sched.turn = .cpu → s.sched.used < s.sched.budget
  used : s.sched.used ≤ s.sched.budget + 6
  overshoot : s.sched.frameOvershoot ≤ 6

/-- The NMI timer between steps: its next phase is the first multiple of the period after `cycleCount`
(60_exceptions R420). -/
structure State.NmiTimerOk (s : State) : Prop where
  later : s.cpu.cycleCount < s.sched.nmiPhase
  soon : s.sched.nmiPhase ≤ s.cpu.cycleCount + Config.nmiPeriod
  multiple : s.sched.nmiPhase % Config.nmiPeriod = 0

/-- `n` steps of the machine one after another, ending early at a step that has no next state. -/
def steps : Nat → State → Host.Outcome State Fault Refusal
  | 0, s => .next s
  | n + 1, s =>
    match step s with
    | .next t => steps n t
    | .fault r => .fault r
    | .refused r => .refused r

/-- The base cycles of the read instructions, by operand form (70_reset_and_hazards R471, rows 1, 5, 6, 9, 10). -/
def readCycles : Operand → Nat
  | .imm _ => 2
  | .mem (.zp _) => 3
  | .mem (.zpx _) => 4
  | .mem (.zpy _) => 4
  | .mem (.abs _) => 4
  | .mem (.absx _) => 4
  | .mem (.absy _) => 4
  | .mem (.indx _) => 6
  | .mem (.indy _) => 5

/-- The cycles of the stores, by mode (70_reset_and_hazards R471, rows 2, 7, 8). -/
def storeCycles : MemMode → Nat
  | .zp _ => 3
  | .zpx _ => 4
  | .zpy _ => 4
  | .abs _ => 4
  | .absx _ => 5
  | .absy _ => 5
  | .indx _ => 6
  | .indy _ => 6

/-- The cycles of the read-modify-write instructions, by mode; the modes R165 does not give them have no entry
(70_reset_and_hazards R471, rows 3, 4). -/
def modifyCycles : MemMode → Option Nat
  | .zp _ => some 5
  | .zpx _ => some 6
  | .abs _ => some 6
  | .absx _ => some 7
  | .zpy _ => none
  | .absy _ => none
  | .indx _ => none
  | .indy _ => none

/-- The condition of a branch (43_branch_jump R271-R278). -/
def branchTaken (p : Flags) : Mnemonic → Option Bool
  | .bcc => some (!p.c)
  | .bcs => some p.c
  | .beq => some p.z
  | .bmi => some p.n
  | .bne => some (!p.z)
  | .bpl => some (!p.n)
  | .bvc => some (!p.v)
  | .bvs => some p.v
  | _ => none

/-- The machine with the break flag cleared: what a program can observe of it (10_state R46). -/
def State.forgetB (s : State) : State := s.setP { s.cpu.p with b := false }

/-- The result and the carry of a shift or rotate of `v` with carry `c`, in unsigned arithmetic (41_logic R234-R237). -/
def shiftValue (v : Byte) (c : Bool) : Mnemonic → Option (Nat × Bool)
  | .asl => some (v.toNat * 2 % 256, decide (128 ≤ v.toNat))
  | .lsr => some (v.toNat / 2, decide (v.toNat % 2 = 1))
  | .rol => some ((v.toNat * 2 + c.toNat) % 256, decide (128 ≤ v.toNat))
  | .ror => some (v.toNat / 2 + 128 * c.toNat, decide (v.toNat % 2 = 1))
  | _ => none

/-- The flags with N and Z of a value, in unsigned arithmetic (00_scope R10). -/
def Flags.withNZ (p : Flags) (v : Nat) : Flags := { p with n := decide (128 ≤ v), z := decide (v = 0) }

/-- The value of two packed BCD digits (40_arithmetic R200). -/
def bcdValue (b : Byte) : Nat := b.toNat / 16 * 10 + b.toNat % 16

/-- Both digits of a byte are decimal. -/
def isBcd (b : Byte) : Bool := b.toNat / 16 < 10 ∧ b.toNat % 16 < 10

/-- The beam's units per magnitude unit at local scale `ls`: `2^(e + 1)` for the effective scale `e`, which is -1 above 9
(46_vector_processor R322, R326). -/
def scaleUnit (vscale ls : BitVec 4) : Int :=
  if 9 < (vscale.toNat + ls.toNat) % 16 then 1 else 2 ^ ((vscale.toNat + ls.toNat) % 16 + 1)

/-- A sign bit as a factor (46_vector_processor R326). -/
def signOf (sg : Bool) : Int := if sg then -1 else 1

/-- The 105 opcode bytes with no defined semantics, as 30_encoding R168 lists them. -/
def illegalOpcodes : List Byte :=
  [0x02, 0x03, 0x04, 0x07, 0x0B, 0x0C, 0x0F, 0x12, 0x13, 0x14, 0x17,
   0x1A, 0x1B, 0x1C, 0x1F, 0x22, 0x23, 0x27, 0x2B, 0x2F, 0x32] ++
  [0x33, 0x34, 0x37, 0x3A, 0x3B, 0x3C, 0x3F, 0x42, 0x43, 0x44, 0x47,
   0x4B, 0x4F, 0x52, 0x53, 0x54, 0x57, 0x5A, 0x5B, 0x5C, 0x5F] ++
  [0x62, 0x63, 0x64, 0x67, 0x6B, 0x6F, 0x72, 0x73, 0x74, 0x77, 0x7A,
   0x7B, 0x7C, 0x7F, 0x80, 0x82, 0x83, 0x87, 0x89, 0x8B, 0x8F] ++
  [0x92, 0x93, 0x97, 0x9B, 0x9C, 0x9E, 0x9F, 0xA3, 0xA7, 0xAB, 0xAF,
   0xB2, 0xB3, 0xB7, 0xBB, 0xBF, 0xC2, 0xC3, 0xC7, 0xCB, 0xCF] ++
  [0xD2, 0xD3, 0xD4, 0xD7, 0xDA, 0xDB, 0xDC, 0xDF, 0xE2, 0xE3, 0xE7,
   0xEB, 0xEF, 0xF2, 0xF3, 0xF4, 0xF7, 0xFA, 0xFB, 0xFC, 0xFF]

/-- A class whose addresses a write changes for later reads: a byte of either RAM (20_memory R102). -/
def Region.isRam : Region → Bool
  | .ram _ => true
  | .vram _ => true
  | .rom _ => false
  | .in0 _ => false
  | .in1 _ => false
  | .dsw _ => false
  | .dmago => false
  | .latch => false
  | .watchdog => false
  | .sound => false
  | .unmapped => false

/-- Two addresses name the same place: they differ in bit 15 at most (20_memory R112), or the map backs both with one byte of
a RAM, which the default map does for no others (Obligations.AddressMap). -/
def MemoryMap.samePlace (m : MemoryMap) (a b : Word) : Bool :=
  a.toNat % 0x8000 = b.toNat % 0x8000 ∨ ((m.classify a).isRam = true ∧ m.classify a = m.classify b)

/-- What one Bus write of `v` at `a` makes of `s`, said through reads: RAM and vector RAM read the byte back, every other
place reads as before unless the write swapped the RAM pages or started the Vector Processor, and only the register that
`a` names changes (20_memory R102-R105, R113, R115; 46_vector_processor R340). -/
structure State.StoredByte (s t : State) (a : Word) (v : Byte) : Prop where
  readBack : ∀ k, s.bus.map.classify a = .ram k ∨ s.bus.map.classify a = .vram k → t.read a = v
  elsewhere : s.bus.map.classify a ≠ .dmago → s.bus.map.classify a ≠ .latch →
    ∀ b, s.bus.map.samePlace b a = false → t.read b = s.read b
  trigger : s.bus.map.classify a = .dmago → t.bus = s.bus ∧ t.vp = { s.vp with vpc := 0, vsp := 0, halted := false }
  noTrigger : s.bus.map.classify a ≠ .dmago → t.vp = s.vp
  latch : s.bus.map.classify a = .latch → t.bus = { s.bus with outLatch := v }
  noLatch : s.bus.map.classify a ≠ .latch → t.bus.outLatch = s.bus.outLatch
  sound : s.bus.map.classify a = .sound → t.bus.soundEvents = s.bus.soundEvents ++ [⟨mirror a, v⟩]
  noSound : s.bus.map.classify a ≠ .sound → t.bus.soundEvents = s.bus.soundEvents
  rom : t.bus.rom = s.bus.rom
  snapshot : t.bus.snapshot = s.bus.snapshot
  map : t.bus.map = s.bus.map

/-- What pushes make of `s`: the listed stack bytes read back, every other place reads as before, and of the Bus only work
RAM may differ (10_state R42). -/
structure State.Pushed (s t : State) (l : List (Word × Byte)) : Prop where
  readBack : ∀ p ∈ l, t.read p.1 = p.2
  elsewhere : ∀ b, (∀ p ∈ l, s.bus.map.samePlace b p.1 = false) → t.read b = s.read b
  bus : t.bus = { s.bus with ram := t.bus.ram }
  vp : t.vp = s.vp

/-- The cycles of the instructions that are neither reads, stores, read-modify-writes nor branches, and of the shifts of
the accumulator (70_reset_and_hazards R471). -/
def otherCycles (k : Mnemonic) (indirect : Bool) : Nat :=
  match k with
  | .jmp => if indirect then 5 else 3
  | .jsr => 6
  | .rts => 6
  | .rti => 6
  | .brk => 7
  | .pha => 3
  | .php => 3
  | .pla => 4
  | .plp => 4
  | _ => 2

end Sys2Proof.Machine
end

