-- ==== Sys2Proof/Certificates/Slice0/Obligations.lean ====
section
/-! DEFINITION. The statements about the machine, for the provers. Each docstring names the rules of spec/ that it
formalises; a statement that rests on the model's own choice says so and names the log entry. -/

open Sys2Proof Sys2Proof.Machine

/-! Encoding. -/

/-- Decoding what the encoder writes gives the instruction back, whatever follows it: all 167 rows, every operand
(30_encoding R161, R166; 46_vector_processor R324). -/
def Obligations.DecodeOfEncoded : Prop :=
  ∀ (isa : Isa) (i : Instr) (rest : List Byte), i.wellFormed isa = true → decode isa (encode i ++ rest) = .ok (i, rest)

/-- What decodes is well formed, and the encoder writes exactly the bytes that were decoded: no bit is dropped and no two
encodings mean one instruction (30_encoding R161, R166; 46_vector_processor R324). -/
def Obligations.EncodeOfDecoded : Prop :=
  ∀ (isa : Isa) (bs rest : List Byte) (i : Instr), decode isa bs = .ok (i, rest) →
    i.wellFormed isa = true ∧ bs = encode i ++ rest

/-- The 105 bytes of 30_encoding R168 are rejected by name, and every other opcode byte is an instruction (R169). -/
def Obligations.IllegalOpcodes : Prop :=
  illegalOpcodes.Nodup ∧ illegalOpcodes.length = 105 ∧
  ∀ op b1 b2 : Byte,
    (op ∈ illegalOpcodes → decode .cpu [op, b1, b2] = .error (.illegalOpcode op)) ∧
    (op ∉ illegalOpcodes → ∃ i rest k m, decode .cpu [op, b1, b2] = .ok (i, rest) ∧ i.view = .cpu k m)

/-- Encodings written out by hand from the spec decode to the instructions they stand for. -/
def Obligations.WrittenOutWords : Prop :=
  decode .cpu [0xA9, 0x80] = .ok (.ldaImm 0x80, []) ∧
  decode .cpu [0x8D, 0x00, 0x02] = .ok (.staAbs 0x0200, []) ∧
  decode .cpu [0x71, 0x10] = .ok (.adcIndY 0x10, []) ∧
  decode .cpu [0x3E, 0x34, 0x12] = .ok (.rolAbsX 0x1234, []) ∧
  decode .cpu [0x6C, 0xFF, 0x02] = .ok (.jmpInd 0x02FF, []) ∧
  decode .cpu [0xD0, 0xF0] = .ok (.bne 0xF0, []) ∧
  decode .cpu [0x28] = .ok (.plp, []) ∧
  decode .cpu [0xF8] = .ok (.sed, []) ∧
  decode .vp [0x00, 0x95, 0x00, 0xF2] = .ok (.vctr9 ⟨false, true, 0x100, 15, false, false, 0x200⟩, []) ∧
  decode .vp [0x80, 0xA1, 0x00, 0x12] = .ok (.labs ⟨0x180, 1, 0x200⟩, []) ∧
  decode .vp [0x00, 0xB0] = .ok (.halt 0, []) ∧
  decode .vp [0xA0, 0xC8] = .ok (.jsrl 0x8A0, []) ∧
  decode .vp [0x73, 0xF8] = .ok (.svec ⟨true, false, 0, 7, false, false, 3⟩, [])

/-! The step. -/

/-- On the CPU's turn, with no fault and no interrupt to take, when the bytes at the program counter decode to `i`, the
step is exec of `i`, then what the Scheduler does after a CPU step (60_exceptions R411, R430; 30_encoding R174). That one
step of the model is one CPU step is the model's reading of R430 (DEDUCED: notes/assumptions 9), and that a step with no
frame in progress first begins one is its choice (DESIGN CHOICE: notes/assumptions 11). -/
def Obligations.CpuStepRunsDecoded : Prop :=
  ∀ (s : State) (i : Instr) (rest : List Byte),
    s.cpu.fault = none → s.sched.turn = .cpu → s.cpu.nmiPending = false →
    (s.cpu.irqPending = false ∨ s.cpu.p.i = true) → decode .cpu s.beginFrame.fetchBytes = .ok (i, rest) →
    i.wellFormed .cpu = true ∧ (s.sched.frameOpen = true → s.beginFrame = s) ∧ s.beginFrame.cpu = s.cpu ∧
    s.beginFrame.vp = s.vp ∧ s.beginFrame.bus.map = s.bus.map ∧
    s.beginFrame.bus.ram = s.bus.ram ∧ s.beginFrame.bus.vram = s.bus.vram ∧ s.beginFrame.bus.rom = s.bus.rom ∧
    ∃ t, exec i s.beginFrame = .next t ∧ step s = .next t.afterCpuStep

/-- On the Vector Processor's turn it runs and its credit covers its next instruction's whole cost, its next words decode,
and the step is exec of that instruction, then the charge for its cost (46_vector_processor R337, R341). That one step of
the model is one instruction of a quantum, and that the check of R341 is made at the hand-over of the turn, are the model's
(DEDUCED: notes/assumptions 9 and 10); the premise is the invariant of Obligations.StepKeepsSchedulerOk. -/
def Obligations.VpStepRunsDecoded : Prop :=
  ∀ s : State, s.SchedulerOk → s.cpu.fault = none → s.sched.turn = .vp →
    s.vp.halted = false ∧ s.vpCost ≤ s.sched.vpCredit ∧
    ∃ rest t, decode .vp s.vpFetchBytes = .ok (s.vpFetch, rest) ∧ s.vpFetch.wellFormed .vp = true ∧
      exec s.vpFetch s = .next t ∧ step s = .next (t.afterVpInstr s.vpCost)

/-- A CPU step with a pending NMI takes it; else with a pending IRQ and I clear it takes that; else it is one instruction.
The entry pushes the program counter and the status byte with bit 4 clear, sets I, reads the vector and returns 7 cycles
(60_exceptions R411, R413). -/
def Obligations.InterruptEntry : Prop :=
  ∀ s : State, s.MemoryCanonical →
    (s.cpu.nmiPending = true →
      ∃ t, cpuStep s = .next t ∧ t.sched = s.sched ∧
        t.cpu = { s.cpu with nmiPending := false, s := s.cpu.s - 3, p := { s.cpu.p with i := true },
                             pc := w16 (s.read 0xFFFA) (s.read 0xFFFB), cycles := 7 } ∧
        s.Pushed t [(stackAddr s.cpu.s, hi s.cpu.pc), (stackAddr (s.cpu.s - 1), lo s.cpu.pc),
                    (stackAddr (s.cpu.s - 2), s.cpu.p.pack false)]) ∧
    (s.cpu.nmiPending = false → s.cpu.irqPending = true → s.cpu.p.i = false →
      ∃ t, cpuStep s = .next t ∧ t.sched = s.sched ∧
        t.cpu = { s.cpu with irqPending := false, s := s.cpu.s - 3, p := { s.cpu.p with i := true },
                             pc := w16 (s.read 0xFFFE) (s.read 0xFFFF), cycles := 7 } ∧
        s.Pushed t [(stackAddr s.cpu.s, hi s.cpu.pc), (stackAddr (s.cpu.s - 1), lo s.cpu.pc),
                    (stackAddr (s.cpu.s - 2), s.cpu.p.pack false)]) ∧
    (s.cpu.nmiPending = false → (s.cpu.irqPending = false ∨ s.cpu.p.i = true) → cpuStep s = cpuInstruction s)

/-- Fetching one of the 105 bytes records the fault, returns 0 cycles, changes nothing else of the state that the step began
with, its frame begun, and ends the frame's loop; no later step of any agent happens (60_exceptions R400, 30_encoding
R170). That the faulting step answers a next state and the step after it the fault is the model's reading (DEDUCED:
notes/assumptions 13), and that a step with no frame in progress first begins one is its choice (DESIGN CHOICE:
notes/assumptions 11). -/
def Obligations.DecodeFault : Prop :=
  ∀ (s : State) (op : Byte),
    s.cpu.fault = none → s.sched.turn = .cpu → s.cpu.nmiPending = false →
    (s.cpu.irqPending = false ∨ s.cpu.p.i = true) → s.beginFrame.read s.cpu.pc = op → op ∈ illegalOpcodes →
    ∃ t, t = { s.beginFrame with cpu := { s.cpu with fault := some ⟨s.cpu.pc, op⟩, cycles := 0 } } ∧
      step s = .next t ∧ step t = .fault (.decodeFault s.cpu.pc op) ∧
      ∀ n, s.beginFrame.sched.used < s.beginFrame.sched.budget → frameLoop (n + 1) s.beginFrame = .next t

/-- The status byte: PackP and UnpackP, bit by bit (10_state R44, R45). -/
def Obligations.StatusByte : Prop :=
  ∀ (p : Flags) (b : Bool) (v : Byte),
    (p.pack b).getLsbD 7 = p.n ∧ (p.pack b).getLsbD 6 = p.v ∧ (p.pack b).getLsbD 5 = true ∧
    (p.pack b).getLsbD 4 = b ∧ (p.pack b).getLsbD 3 = p.d ∧ (p.pack b).getLsbD 2 = p.i ∧
    (p.pack b).getLsbD 1 = p.z ∧ (p.pack b).getLsbD 0 = p.c ∧
    Flags.unpack v = ⟨v.getLsbD 7, v.getLsbD 6, v.getLsbD 4, v.getLsbD 3, v.getLsbD 2, v.getLsbD 1, v.getLsbD 0⟩ ∧
    Flags.unpack (p.pack b) = { p with b := b }

/-! Reset. -/

/-- Power-on: an image of another length than 8192 is refused; else every piece of state has the value of 10_state R57,
whatever the memory map and the draws, and under the default map the program counter is image bytes 0x1FFC and 0x1FFD
(70_reset_and_hazards R450, R451). -/
def Obligations.PowerOn : Prop :=
  ∀ (map : MemoryMap) (image : List Byte) (d : Draws),
    (image.length ≠ 8192 → powerOn map image d = .error (.loadFault image.length)) ∧
    (image.length = 8192 → ∃ s, powerOn map image d = .ok s ∧ s.bus.map = map ∧
      s.cpu.a = d.a ∧ s.cpu.x = d.x ∧ s.cpu.y = d.y ∧ s.cpu.s = d.s - 3 ∧
      s.cpu.p = ⟨d.n, d.v, d.b, d.d, true, d.z, d.c⟩ ∧
      s.cpu.pc = w16 (s.read 0xFFFC) (s.read 0xFFFD) ∧
      (map = defaultMemoryMap → s.cpu.pc = w16 (image.getD 0x1FFC 0) (image.getD 0x1FFD 0)) ∧
      s.cpu.irqPending = false ∧ s.cpu.nmiPending = false ∧ s.cpu.cycleCount = 0 ∧ s.cpu.fault = none ∧
      s.bus.ram = d.ram ∧ s.bus.vram = d.vram ∧ (∀ k, s.bus.rom.get k = image.getD k 0) ∧ s.bus.rom.wf 8192 ∧
      s.bus.outLatch = 0 ∧ s.bus.soundEvents = [] ∧
      s.vp = { vpc := 0, vx := 0, vy := 0, vscale := 0, vstack := ⟨0, 0, 0, 0⟩, vsp := 0, halted := true } ∧
      s.sched.vpCredit = 0 ∧ s.sched.frameOvershoot = 0 ∧ s.sched.segments = [] ∧ s.sched.nmiPhase = 6144)

/-! Invariants. -/

/-- The invariants hold at reset, and in every machine that power-on makes: for every well-formed memory map, every image of
8192 bytes and every contents of the two RAMs in canonical form. The default map is well formed, with RAMs of 1024 and 2048
bytes (10_state R52, R57; 70_reset_and_hazards R450). At reset they rest on the model's values for the draws and the image
(DESIGN CHOICE: notes/assumptions 1, 2 and 3), after power-on on none of them. -/
def Obligations.InvariantsAtReset : Prop :=
  (State.reset.MemoryCanonical ∧ State.reset.SchedulerOk ∧ State.reset.NmiTimerOk) ∧
  (defaultMemoryMap.WellFormed ∧ defaultMemoryMap.ramSize = 1024 ∧ defaultMemoryMap.vramSize = 2048) ∧
  ∀ (map : MemoryMap) (image : List Byte) (d : Draws),
    map.WellFormed → image.length = 8192 → d.ram.wf map.ramSize → d.vram.wf map.vramSize →
    ∃ s, powerOn map image d = .ok s ∧ s.MemoryCanonical ∧ s.SchedulerOk ∧ s.NmiTimerOk

/-- Every step keeps the memory map well formed and the memory's canonical form. -/
def Obligations.StepKeepsMemoryCanonical : Prop :=
  ∀ s t : State, s.MemoryCanonical → step s = .next t → t.MemoryCanonical

/-- Every step keeps the Scheduler's bookkeeping: the turn is the Vector Processor's exactly when it can run, a halted one
holds no credit, the budget is the shortened one, and no frame is overshot by more than 6 cycles
(46_vector_processor R341; 60_exceptions R430, R431). The premise on the memory, an invariant of its own, keeps devices out
of the Vector Processor's space. -/
def Obligations.StepKeepsSchedulerOk : Prop :=
  ∀ s t : State, s.MemoryCanonical → s.SchedulerOk → step s = .next t → t.SchedulerOk

/-- Every step keeps the NMI timer's phase: the first multiple of 6144 after `cycleCount` (60_exceptions R420). -/
def Obligations.StepKeepsNmiTimerOk : Prop :=
  ∀ s t : State, s.NmiTimerOk → step s = .next t → t.NmiTimerOk

/-- Within a frame the input snapshot is constant and the two output lists only grow; a step that opens a frame takes the
next snapshot the host supplied and starts both lists empty: whatever the old sound events were, the step's outcome is the
same, and at most the one event of the step itself is in the list (10_state R53; 60_exceptions R430, R431). That a step
opens a frame, with a queued snapshot, is the model's choice (DESIGN CHOICE: notes/assumptions 11). -/
def Obligations.FrameOutputs : Prop :=
  ∀ s t : State, step s = .next t →
    (s.sched.frameOpen = true ∨ s.sched.turn = .vp →
      t.bus.snapshot = s.bus.snapshot ∧ t.sched.pendingInputs = s.sched.pendingInputs ∧
      s.bus.soundEvents <+: t.bus.soundEvents ∧ s.sched.segments <+: t.sched.segments) ∧
    (s.sched.frameOpen = false → s.sched.turn = .cpu →
      t.sched.segments = [] ∧ (∀ old, step (s.setSound old) = .next t) ∧
      (s.MemoryCanonical → t.bus.soundEvents.length ≤ 1) ∧ t.sched.budget = 25200 - s.sched.frameOvershoot ∧
      ∀ inp rest, s.sched.pendingInputs = inp :: rest → t.bus.snapshot = inp ∧ t.sched.pendingInputs = rest)

/-! The Bus. -/

/-- A write to work RAM or vector RAM reads back, at the address and at its mirror, and every other place reads as before;
nothing else of the machine changes (20_memory R102, R112, R118). -/
def Obligations.RamReadsBack : Prop :=
  ∀ (s : State) (a : Word) (v : Byte) (k : Nat), s.MemoryCanonical →
    (s.bus.map.classify a = .ram k ∨ s.bus.map.classify a = .vram k) →
    (s.write a v).read a = v ∧ (s.write a v).read (a + 0x8000) = v ∧
    (∀ b, s.bus.map.samePlace b a = false → (s.write a v).read b = s.read b) ∧
    (s.write a v).cpu = s.cpu ∧ (s.write a v).vp = s.vp ∧ (s.write a v).sched = s.sched ∧
    (s.write a v).bus = { s.bus with ram := (s.write a v).bus.ram, vram := (s.write a v).bus.vram }

/-- ROM reads the image byte that the address maps to, a write to it changes no state, and no step of the machine changes
the image or the memory map (20_memory R101, R103, R111, R117). The addresses are the default map's. -/
def Obligations.RomAccess : Prop :=
  (∀ (s : State) (a : Word) (v : Byte) (k : Nat), s.bus.map.classify a = .rom k →
    s.read a = s.bus.rom.get k ∧ s.write a v = s) ∧
  (∀ (s : State) (a : Word) (v : Byte), s.bus.map = defaultMemoryMap →
    (0x5000 ≤ a.toNat % 0x8000 → a.toNat % 0x8000 ≤ 0x57FF →
      s.read a = s.bus.rom.get (a.toNat % 0x8000 - 0x5000) ∧ s.write a v = s) ∧
    (0x6800 ≤ a.toNat % 0x8000 → s.read a = s.bus.rom.get (a.toNat % 0x8000 - 0x6000) ∧ s.write a v = s)) ∧
  ∀ s t : State, step s = .next t → t.bus.rom = s.bus.rom ∧ t.bus.map = s.bus.map

/-- Under any well-formed memory map an address has the class of the row that holds it, and is unmapped when no row does
(20_memory R101). The default map, which the machine has at reset, row by row; it backs no two addresses but mirrors with
one byte of a RAM (20_memory R111, R112). That reset takes the default of the parameter is the model's choice
(DESIGN CHOICE: notes/assumptions 8). -/
def Obligations.AddressMap : Prop :=
  (∀ (m : MemoryMap) (a : Word) (k : Nat), m.WellFormed → k = a.toNat % 0x8000 →
    (∀ r ∈ m.rows, r.first ≤ k → k ≤ r.last → m.classify a = r.region.plus (k - r.first)) ∧
    ((∀ r ∈ m.rows, k < r.first ∨ r.last < k) → m.classify a = .unmapped)) ∧
  State.reset.bus.map = defaultMemoryMap ∧
  (∀ a b : Word, defaultMemoryMap.samePlace a b = decide (a.toNat % 0x8000 = b.toNat % 0x8000)) ∧
  ∀ (a : Word) (k : Nat), k = a.toNat % 0x8000 →
    defaultMemoryMap.classify a =
      if k ≤ 0x03FF then .ram k
      else if 0x2000 ≤ k ∧ k ≤ 0x2007 then .in0 (k - 0x2000)
      else if 0x2400 ≤ k ∧ k ≤ 0x2407 then .in1 (k - 0x2400)
      else if 0x2800 ≤ k ∧ k ≤ 0x2803 then .dsw (k - 0x2800)
      else if k = 0x3000 then .dmago
      else if k = 0x3200 then .latch
      else if k = 0x3400 then .watchdog
      else if k = 0x3600 ∨ k = 0x3A00 ∨ (0x3C00 ≤ k ∧ k ≤ 0x3C07) ∨ k = 0x3E00 then .sound
      else if 0x4000 ≤ k ∧ k ≤ 0x47FF then .vram (k - 0x4000)
      else if 0x5000 ≤ k ∧ k ≤ 0x57FF then .rom (k - 0x5000)
      else if 0x6800 ≤ k then .rom (k - 0x6000)
      else .unmapped

/-- An unmapped read gives the open bus and an unmapped write has no effect; so does an access to a device in the direction it
does not serve (20_memory R105, R111). That the open bus takes the address without its bit 15 is the model's reading of R112
(DEDUCED: notes/assumptions 15). The open bus is the free value of notes/assumptions 5. -/
def Obligations.OpenBus : Prop :=
  ∀ (s : State) (a m : Word) (v : Byte), m.toNat = a.toNat % 0x8000 →
    (s.bus.map.classify a = .unmapped → s.read a = Config.openBus m ∧ s.write a v = s) ∧
    (s.bus.map.classify a = .dmago ∨ s.bus.map.classify a = .latch ∨ s.bus.map.classify a = .watchdog ∨
      s.bus.map.classify a = .sound → s.read a = Config.openBus m) ∧
    (∀ n, s.bus.map.classify a = .in0 n ∨ s.bus.map.classify a = .in1 n ∨ s.bus.map.classify a = .dsw n →
      s.write a v = s)

/-- Address bit 15 is not decoded, so under the default map the vectors are image bytes 0x1FFA to 0x1FFF (20_memory R112). -/
def Obligations.Mirror : Prop :=
  (∀ (s : State) (a : Word) (v : Byte), 0x8000 ≤ a.toNat →
    s.read a = s.read (a - 0x8000) ∧ s.write a v = s.write (a - 0x8000) v) ∧
  (∀ (s : State) (k : Nat), s.bus.map = defaultMemoryMap → k < 6 →
    s.read (BitVec.ofNat 16 (0xFFFA + k)) = s.bus.rom.get (0x1FFA + k))

/-- RAMSEL swaps RAM pages 2 and 3, for reads and writes, from the first access after the write to 0x3200
(20_memory R113). The addresses here and in the next three statements are the default map's. -/
def Obligations.RamPageSwap : Prop :=
  ∀ (s : State) (k : Nat) (v l : Byte), s.bus.map = defaultMemoryMap → k < 256 →
    (s.bus.outLatch.getLsbD 2 = true →
      s.read (BitVec.ofNat 16 (0x0200 + k)) = s.bus.ram.get (0x300 + k) ∧
      s.read (BitVec.ofNat 16 (0x0300 + k)) = s.bus.ram.get (0x200 + k) ∧
      (s.write (BitVec.ofNat 16 (0x0200 + k)) v).bus.ram = s.bus.ram.set (0x300 + k) v ∧
      (s.write (BitVec.ofNat 16 (0x0300 + k)) v).bus.ram = s.bus.ram.set (0x200 + k) v) ∧
    (s.bus.outLatch.getLsbD 2 = false →
      s.read (BitVec.ofNat 16 (0x0200 + k)) = s.bus.ram.get (0x200 + k) ∧
      s.read (BitVec.ofNat 16 (0x0300 + k)) = s.bus.ram.get (0x300 + k) ∧
      (s.write (BitVec.ofNat 16 (0x0200 + k)) v).bus.ram = s.bus.ram.set (0x200 + k) v ∧
      (s.write (BitVec.ofNat 16 (0x0300 + k)) v).bus.ram = s.bus.ram.set (0x300 + k) v) ∧
    (s.write 0x3200 l).bus = { s.bus with outLatch := l }

/-- The switch registers: the line in bit 7, or two DIP bits, over the open bus; the lines the snapshot does not name read 0
(20_memory R114). -/
def Obligations.SwitchReads : Prop :=
  ∀ (s : State) (n : Nat), s.bus.map = defaultMemoryMap → n < 8 → ∀ (line0 line1 : Bool),
    line0 = (match n with
      | 1 => decide (s.cpu.cycleCount / 256 % 2 = 1)
      | 2 => !s.vp.halted
      | 3 => s.bus.snapshot.hyperspace
      | 4 => s.bus.snapshot.fire
      | _ => false) →
    line1 = (match n with
      | 0 => s.bus.snapshot.coin
      | 3 => s.bus.snapshot.start
      | 5 => s.bus.snapshot.thrust
      | 6 => s.bus.snapshot.rotateRight
      | 7 => s.bus.snapshot.rotateLeft
      | _ => false) →
    (s.read (BitVec.ofNat 16 (0x2000 + n))).toNat =
      128 * line0.toNat + (Config.openBus (BitVec.ofNat 16 (0x2000 + n))).toNat % 128 ∧
    (s.read (BitVec.ofNat 16 (0x2400 + n))).toNat =
      128 * line1.toNat + (Config.openBus (BitVec.ofNat 16 (0x2400 + n))).toNat % 128 ∧
    (n < 4 → (s.read (BitVec.ofNat 16 (0x2800 + n))).toNat =
      s.bus.snapshot.dip.toNat / 4 ^ (3 - n) % 4 + (Config.openBus (BitVec.ofNat 16 (0x2800 + n))).toNat / 4 * 4)

/-- The device writes: DMAGO starts the Vector Processor whatever the byte, 0x3200 loads the latch, 0x3400 does nothing, and
each sound register appends its address and byte to the events (20_memory R115; 46_vector_processor R340). -/
def Obligations.DeviceWrites : Prop :=
  ∀ (s : State) (v : Byte), s.bus.map = defaultMemoryMap →
    s.write 0x3000 v = { s with vp := { s.vp with vpc := 0, vsp := 0, halted := false } } ∧
    s.write 0x3200 v = { s with bus := { s.bus with outLatch := v } } ∧
    s.write 0x3400 v = s ∧
    ∀ a : Word, (a = 0x3600 ∨ a = 0x3A00 ∨ (0x3C00 ≤ a.toNat ∧ a.toNat ≤ 0x3C07) ∨ a = 0x3E00) →
      s.write a v = { s with bus := { s.bus with soundEvents := s.bus.soundEvents ++ [⟨a, v⟩] } }

/-- The Vector Processor's words: vector RAM at 0x000, vector ROM at 0x800, little-endian, and open bus elsewhere
(20_memory R107; 46_vector_processor R323). -/
def Obligations.VpWords : Prop :=
  ∀ (s : State) (w : VAddr), s.bus.map = defaultMemoryMap →
    (w.toNat < 0x400 → s.vpRead w = w16 (s.bus.vram.get (2 * w.toNat)) (s.bus.vram.get (2 * w.toNat + 1))) ∧
    (0x800 ≤ w.toNat → w.toNat < 0xC00 →
      s.vpRead w = w16 (s.bus.rom.get (2 * w.toNat - 0x1000)) (s.bus.rom.get (2 * w.toNat - 0x1000 + 1))) ∧
    ((0x400 ≤ w.toNat ∧ w.toNat < 0x800) ∨ 0xC00 ≤ w.toNat →
      s.vpRead w = w16 (Config.openBus (BitVec.ofNat 16 (0x4000 + 2 * w.toNat)))
        (Config.openBus (BitVec.ofNat 16 (0x4001 + 2 * w.toNat))))

/-- The effective address of every memory mode, in unsigned arithmetic: zero-page sums and pointers wrap in page 0, 16-bit
sums modulo 65536 (30_encoding R163, R164). -/
def Obligations.EffectiveAddresses : Prop :=
  ∀ (s : State) (b : Byte) (w : Word) (x y : Nat), x = s.cpu.x.toNat → y = s.cpu.y.toNat →
    ∀ pointer : Nat → Nat,
    (∀ p, pointer p = (s.read (BitVec.ofNat 16 p)).toNat + 256 * (s.read (BitVec.ofNat 16 ((p + 1) % 256))).toNat) →
    (s.effAddr (.zp b)).toNat = b.toNat ∧
    (s.effAddr (.zpx b)).toNat = (b.toNat + x) % 256 ∧
    (s.effAddr (.zpy b)).toNat = (b.toNat + y) % 256 ∧
    s.effAddr (.abs w) = w ∧
    (s.effAddr (.absx w)).toNat = (w.toNat + x) % 65536 ∧
    (s.effAddr (.absy w)).toNat = (w.toNat + y) % 65536 ∧
    (s.effAddr (.indx b)).toNat = pointer ((b.toNat + x) % 256) ∧
    (s.effAddr (.indy b)).toNat = (pointer b.toNat + y) % 65536

/-! Arithmetic. Each statement gives the mnemonic's opcodes, and the whole next state for every form. `s.operand o` is
`Operand()` (30_encoding R175), and `PC` advances by the form's length (R174). -/

/-- ADC, binary and NMOS decimal (40_arithmetic R201). Binary V is said as signed overflow (R200). -/
def Obligations.AdcRule : Prop :=
  Mnemonic.adc.HasOpcodes [(0x69, .imm), (0x65, .zp), (0x75, .zpx), (0x6D, .abs), (0x7D, .absx), (0x79, .absy),
    (0x61, .indx), (0x71, .indy)] ∧
  ∀ (i : Instr) (o : Operand) (s : State) (a m c : Nat), i.view = .cpu .adc (.src o) →
    a = s.cpu.a.toNat → m = (s.operand o).toNat → c = s.cpu.p.c.toNat →
    (s.cpu.p.d = false →
      ∃ cyc, exec i s = .next { s with cpu := { s.cpu with
        a := BitVec.ofNat 8 (a + m + c),
        p := { s.cpu.p.withNZ ((a + m + c) % 256) with
          c := decide (256 ≤ a + m + c),
          v := decide (s.cpu.a.toInt + (s.operand o).toInt + c < -128 ∨ 127 < s.cpu.a.toInt + (s.operand o).toInt + c) },
        pc := s.cpu.pc + BitVec.ofNat 16 o.length, cycles := cyc } }) ∧
    (s.cpu.p.d = true → ∀ al t u : Nat,
      al = (if 0x0A ≤ a % 16 + m % 16 + c then (a % 16 + m % 16 + c + 0x06) % 16 + 0x10 else a % 16 + m % 16 + c) →
      t = a / 16 * 16 + m / 16 * 16 + al → u = (if 0xA0 ≤ t then t + 0x60 else t) →
      ∃ cyc, exec i s = .next { s with cpu := { s.cpu with
        a := BitVec.ofNat 8 u,
        p := { s.cpu.p with
          n := decide (t / 128 % 2 = 1), v := ((a ^^^ t) &&& (m ^^^ t)).testBit 7,
          z := decide ((a + m + c) % 256 = 0), c := decide (0x100 ≤ u) },
        pc := s.cpu.pc + BitVec.ofNat 16 o.length, cycles := cyc } })

/-- SBC, binary and NMOS decimal, with the same flags in both modes (40_arithmetic R202). V is said as signed overflow of
the binary difference (R200). -/
def Obligations.SbcRule : Prop :=
  Mnemonic.sbc.HasOpcodes [(0xE9, .imm), (0xE5, .zp), (0xF5, .zpx), (0xED, .abs), (0xFD, .absx), (0xF9, .absy),
    (0xE1, .indx), (0xF1, .indy)] ∧
  ∀ (i : Instr) (o : Operand) (s : State) (a m c : Nat) (al0 al t0 t : Int), i.view = .cpu .sbc (.src o) →
    a = s.cpu.a.toNat → m = (s.operand o).toNat → c = s.cpu.p.c.toNat →
    al0 = (a % 16 : Nat) - (m % 16 : Nat) + (c : Int) - 1 →
    al = (if al0 < 0 then (al0 - 0x06) % 16 - 0x10 else al0) →
    t0 = (a / 16 * 16 : Nat) - (m / 16 * 16 : Nat) + al → t = (if t0 < 0 then t0 - 0x60 else t0) →
    ∃ cyc, exec i s = .next { s with cpu := { s.cpu with
      a := if s.cpu.p.d then BitVec.ofInt 8 t else BitVec.ofNat 8 (a + (255 - m) + c),
      p := { s.cpu.p.withNZ ((a + (255 - m) + c) % 256) with
        c := decide (m + (1 - c) ≤ a),
        v := decide (s.cpu.a.toInt - (s.operand o).toInt - (1 - (c : Int)) < -128 ∨
                     127 < s.cpu.a.toInt - (s.operand o).toInt - (1 - (c : Int))) },
      pc := s.cpu.pc + BitVec.ofNat 16 o.length, cycles := cyc } }

/-- Decimal ADC and SBC on two-digit BCD operands are addition and subtraction modulo 100, with C the carry or the inverse
of the borrow (40_arithmetic R200, R201, R202). -/
def Obligations.BcdValues : Prop :=
  ∀ (a m : Byte) (p : Flags), isBcd a = true → isBcd m = true → p.d = true →
    isBcd (adcResult a m p).1 = true ∧
    bcdValue (adcResult a m p).1 = (bcdValue a + bcdValue m + p.c.toNat) % 100 ∧
    (adcResult a m p).2.c = decide (100 ≤ bcdValue a + bcdValue m + p.c.toNat) ∧
    isBcd (sbcResult a m p).1 = true ∧
    bcdValue (sbcResult a m p).1 = (bcdValue a + 99 - bcdValue m + p.c.toNat) % 100 ∧
    (sbcResult a m p).2.c = decide (bcdValue m + (1 - p.c.toNat) ≤ bcdValue a)

/-- CMP, CPX and CPY: N, Z and C from the subtraction, V and everything else unchanged (40_arithmetic R203-R205). -/
def Obligations.CompareRules : Prop :=
  Mnemonic.cmp.HasOpcodes [(0xC9, .imm), (0xC5, .zp), (0xD5, .zpx), (0xCD, .abs), (0xDD, .absx), (0xD9, .absy),
    (0xC1, .indx), (0xD1, .indy)] ∧
  Mnemonic.cpx.HasOpcodes [(0xE0, .imm), (0xE4, .zp), (0xEC, .abs)] ∧
  Mnemonic.cpy.HasOpcodes [(0xC0, .imm), (0xC4, .zp), (0xCC, .abs)] ∧
  ∀ (i : Instr) (k : Mnemonic) (o : Operand) (s : State) (r m : Nat), i.view = .cpu k (.src o) →
    m = (s.operand o).toNat →
    (k = .cmp ∧ r = s.cpu.a.toNat ∨ k = .cpx ∧ r = s.cpu.x.toNat ∨ k = .cpy ∧ r = s.cpu.y.toNat) →
    ∃ cyc, exec i s = .next { s with cpu := { s.cpu with
      p := { s.cpu.p with c := decide (m ≤ r), z := decide (r = m), n := decide (128 ≤ (r + (256 - m)) % 256) },
      pc := s.cpu.pc + BitVec.ofNat 16 o.length, cycles := cyc } }

/-- INC and DEC: one read and one write at the effective address, N and Z from the result, and nothing else
(40_arithmetic R206, R207). -/
def Obligations.IncDecRules : Prop :=
  Mnemonic.inc.HasOpcodes [(0xE6, .zp), (0xF6, .zpx), (0xEE, .abs), (0xFE, .absx)] ∧
  Mnemonic.dec.HasOpcodes [(0xC6, .zp), (0xD6, .zpx), (0xCE, .abs), (0xDE, .absx)] ∧
  ∀ (i : Instr) (k : Mnemonic) (m : MemMode) (s : State) (r : Nat), s.MemoryCanonical →
    i.view = .cpu k (.src (.mem m)) →
    (k = .inc ∧ r = ((s.read (s.effAddr m)).toNat + 1) % 256 ∨ k = .dec ∧ r = ((s.read (s.effAddr m)).toNat + 255) % 256) →
    ∃ t cyc, exec i s = .next t ∧ s.StoredByte t (s.effAddr m) (BitVec.ofNat 8 r) ∧ t.sched = s.sched ∧
      t.cpu = { s.cpu with p := s.cpu.p.withNZ r, pc := s.cpu.pc + BitVec.ofNat 16 m.length, cycles := cyc }

/-- INX, INY, DEX and DEY (40_arithmetic R208-R211). -/
def Obligations.RegisterCountRules : Prop :=
  Mnemonic.inx.HasOpcodes [(0xE8, .imp)] ∧ Mnemonic.iny.HasOpcodes [(0xC8, .imp)] ∧
  Mnemonic.dex.HasOpcodes [(0xCA, .imp)] ∧ Mnemonic.dey.HasOpcodes [(0x88, .imp)] ∧
  ∀ (i : Instr) (s : State) (x y : Nat), x = s.cpu.x.toNat → y = s.cpu.y.toNat →
    (i.view = .cpu .inx .imp → ∃ cyc, exec i s = .next { s with cpu := { s.cpu with
      x := BitVec.ofNat 8 ((x + 1) % 256), p := s.cpu.p.withNZ ((x + 1) % 256), pc := s.cpu.pc + 1, cycles := cyc } }) ∧
    (i.view = .cpu .iny .imp → ∃ cyc, exec i s = .next { s with cpu := { s.cpu with
      y := BitVec.ofNat 8 ((y + 1) % 256), p := s.cpu.p.withNZ ((y + 1) % 256), pc := s.cpu.pc + 1, cycles := cyc } }) ∧
    (i.view = .cpu .dex .imp → ∃ cyc, exec i s = .next { s with cpu := { s.cpu with
      x := BitVec.ofNat 8 ((x + 255) % 256), p := s.cpu.p.withNZ ((x + 255) % 256), pc := s.cpu.pc + 1,
      cycles := cyc } }) ∧
    (i.view = .cpu .dey .imp → ∃ cyc, exec i s = .next { s with cpu := { s.cpu with
      y := BitVec.ofNat 8 ((y + 255) % 256), p := s.cpu.p.withNZ ((y + 255) % 256), pc := s.cpu.pc + 1,
      cycles := cyc } })

/-! Logic. -/

/-- AND, ORA and EOR (41_logic R230-R232). -/
def Obligations.LogicRules : Prop :=
  Mnemonic.and.HasOpcodes [(0x29, .imm), (0x25, .zp), (0x35, .zpx), (0x2D, .abs), (0x3D, .absx), (0x39, .absy),
    (0x21, .indx), (0x31, .indy)] ∧
  Mnemonic.ora.HasOpcodes [(0x09, .imm), (0x05, .zp), (0x15, .zpx), (0x0D, .abs), (0x1D, .absx), (0x19, .absy),
    (0x01, .indx), (0x11, .indy)] ∧
  Mnemonic.eor.HasOpcodes [(0x49, .imm), (0x45, .zp), (0x55, .zpx), (0x4D, .abs), (0x5D, .absx), (0x59, .absy),
    (0x41, .indx), (0x51, .indy)] ∧
  ∀ (i : Instr) (k : Mnemonic) (o : Operand) (s : State) (r a m : Nat), i.view = .cpu k (.src o) →
    a = s.cpu.a.toNat → m = (s.operand o).toNat →
    (k = .and ∧ r = a &&& m ∨ k = .ora ∧ r = a ||| m ∨ k = .eor ∧ r = a ^^^ m) →
    ∃ cyc, exec i s = .next { s with cpu := { s.cpu with
      a := BitVec.ofNat 8 r, p := s.cpu.p.withNZ r,
      pc := s.cpu.pc + BitVec.ofNat 16 o.length, cycles := cyc } }

/-- BIT: Z from the AND, N and V from bits 7 and 6 of the memory byte, A unchanged (41_logic R233). -/
def Obligations.BitRule : Prop :=
  Mnemonic.bit.HasOpcodes [(0x24, .zp), (0x2C, .abs)] ∧
  ∀ (i : Instr) (m : MemMode) (s : State) (v : Nat), i.view = .cpu .bit (.src (.mem m)) →
    v = (s.read (s.effAddr m)).toNat →
    ∃ cyc, exec i s = .next { s with cpu := { s.cpu with
      p := { s.cpu.p with z := decide (s.cpu.a.toNat &&& v = 0), n := decide (128 ≤ v), v := decide (64 ≤ v % 128) },
      pc := s.cpu.pc + BitVec.ofNat 16 m.length, cycles := cyc } }

/-- ASL, LSR, ROL and ROR of A, and of memory with one read and one write at the effective address
(41_logic R234-R237). -/
def Obligations.ShiftRules : Prop :=
  Mnemonic.asl.HasOpcodes [(0x0A, .acc), (0x06, .zp), (0x16, .zpx), (0x0E, .abs), (0x1E, .absx)] ∧
  Mnemonic.lsr.HasOpcodes [(0x4A, .acc), (0x46, .zp), (0x56, .zpx), (0x4E, .abs), (0x5E, .absx)] ∧
  Mnemonic.rol.HasOpcodes [(0x2A, .acc), (0x26, .zp), (0x36, .zpx), (0x2E, .abs), (0x3E, .absx)] ∧
  Mnemonic.ror.HasOpcodes [(0x6A, .acc), (0x66, .zp), (0x76, .zpx), (0x6E, .abs), (0x7E, .absx)] ∧
  ∀ (i : Instr) (k : Mnemonic) (s : State) (r : Nat) (c : Bool),
    (i.view = .cpu k .acc → shiftValue s.cpu.a s.cpu.p.c k = some (r, c) →
      ∃ cyc, exec i s = .next { s with cpu := { s.cpu with
        a := BitVec.ofNat 8 r, p := { s.cpu.p.withNZ r with c := c }, pc := s.cpu.pc + 1, cycles := cyc } }) ∧
    (∀ m : MemMode, s.MemoryCanonical → i.view = .cpu k (.src (.mem m)) →
      shiftValue (s.read (s.effAddr m)) s.cpu.p.c k = some (r, c) →
      ∃ t cyc, exec i s = .next t ∧ s.StoredByte t (s.effAddr m) (BitVec.ofNat 8 r) ∧ t.sched = s.sched ∧
        t.cpu = { s.cpu with p := { s.cpu.p.withNZ r with c := c },
                             pc := s.cpu.pc + BitVec.ofNat 16 m.length, cycles := cyc })

/-! Loads, stores and transfers. -/

/-- LDA, LDX and LDY (42_load_store R251-R253). -/
def Obligations.LoadRules : Prop :=
  Mnemonic.lda.HasOpcodes [(0xA9, .imm), (0xA5, .zp), (0xB5, .zpx), (0xAD, .abs), (0xBD, .absx), (0xB9, .absy),
    (0xA1, .indx), (0xB1, .indy)] ∧
  Mnemonic.ldx.HasOpcodes [(0xA2, .imm), (0xA6, .zp), (0xB6, .zpy), (0xAE, .abs), (0xBE, .absy)] ∧
  Mnemonic.ldy.HasOpcodes [(0xA0, .imm), (0xA4, .zp), (0xB4, .zpx), (0xAC, .abs), (0xBC, .absx)] ∧
  ∀ (i : Instr) (o : Operand) (s : State) (m : Byte), m = s.operand o →
    (i.view = .cpu .lda (.src o) → ∃ cyc, exec i s = .next { s with cpu := { s.cpu with
      a := m, p := s.cpu.p.withNZ m.toNat, pc := s.cpu.pc + BitVec.ofNat 16 o.length, cycles := cyc } }) ∧
    (i.view = .cpu .ldx (.src o) → ∃ cyc, exec i s = .next { s with cpu := { s.cpu with
      x := m, p := s.cpu.p.withNZ m.toNat, pc := s.cpu.pc + BitVec.ofNat 16 o.length, cycles := cyc } }) ∧
    (i.view = .cpu .ldy (.src o) → ∃ cyc, exec i s = .next { s with cpu := { s.cpu with
      y := m, p := s.cpu.p.withNZ m.toNat, pc := s.cpu.pc + BitVec.ofNat 16 o.length, cycles := cyc } })

/-- STA, STX and STY: one write at the effective address, no flag and no other register changed, and a cycle count that
does not depend on page crossing (42_load_store R254-R256). -/
def Obligations.StoreRules : Prop :=
  Mnemonic.sta.HasOpcodes [(0x85, .zp), (0x95, .zpx), (0x8D, .abs), (0x9D, .absx), (0x99, .absy), (0x81, .indx),
    (0x91, .indy)] ∧
  Mnemonic.stx.HasOpcodes [(0x86, .zp), (0x96, .zpy), (0x8E, .abs)] ∧
  Mnemonic.sty.HasOpcodes [(0x84, .zp), (0x94, .zpx), (0x8C, .abs)] ∧
  ∀ (i : Instr) (k : Mnemonic) (m : MemMode) (s : State) (v : Byte), s.MemoryCanonical →
    i.view = .cpu k (.src (.mem m)) →
    (k = .sta ∧ v = s.cpu.a ∨ k = .stx ∧ v = s.cpu.x ∨ k = .sty ∧ v = s.cpu.y) →
    ∃ t, exec i s = .next t ∧ s.StoredByte t (s.effAddr m) v ∧ t.sched = s.sched ∧
      t.cpu = { s.cpu with pc := s.cpu.pc + BitVec.ofNat 16 m.length, cycles := storeCycles m }

/-- TAX, TAY, TXA, TYA and TSX set N and Z; TXS sets no flag (42_load_store R257-R262). -/
def Obligations.TransferRules : Prop :=
  Mnemonic.tax.HasOpcodes [(0xAA, .imp)] ∧ Mnemonic.tay.HasOpcodes [(0xA8, .imp)] ∧
  Mnemonic.txa.HasOpcodes [(0x8A, .imp)] ∧ Mnemonic.tya.HasOpcodes [(0x98, .imp)] ∧
  Mnemonic.tsx.HasOpcodes [(0xBA, .imp)] ∧ Mnemonic.txs.HasOpcodes [(0x9A, .imp)] ∧
  ∀ (i : Instr) (s : State),
    (i.view = .cpu .tax .imp → ∃ cyc, exec i s = .next { s with cpu := { s.cpu with
      x := s.cpu.a, p := s.cpu.p.withNZ s.cpu.a.toNat, pc := s.cpu.pc + 1, cycles := cyc } }) ∧
    (i.view = .cpu .tay .imp → ∃ cyc, exec i s = .next { s with cpu := { s.cpu with
      y := s.cpu.a, p := s.cpu.p.withNZ s.cpu.a.toNat, pc := s.cpu.pc + 1, cycles := cyc } }) ∧
    (i.view = .cpu .txa .imp → ∃ cyc, exec i s = .next { s with cpu := { s.cpu with
      a := s.cpu.x, p := s.cpu.p.withNZ s.cpu.x.toNat, pc := s.cpu.pc + 1, cycles := cyc } }) ∧
    (i.view = .cpu .tya .imp → ∃ cyc, exec i s = .next { s with cpu := { s.cpu with
      a := s.cpu.y, p := s.cpu.p.withNZ s.cpu.y.toNat, pc := s.cpu.pc + 1, cycles := cyc } }) ∧
    (i.view = .cpu .tsx .imp → ∃ cyc, exec i s = .next { s with cpu := { s.cpu with
      x := s.cpu.s, p := s.cpu.p.withNZ s.cpu.s.toNat, pc := s.cpu.pc + 1, cycles := cyc } }) ∧
    (i.view = .cpu .txs .imp → ∃ cyc, exec i s = .next { s with cpu := { s.cpu with
      s := s.cpu.x, pc := s.cpu.pc + 1, cycles := cyc } })

/-! Control flow. -/

/-- The eight branches: the target in signed arithmetic, one cycle more when taken and two when the target lies on another
page than the next instruction; no flag written (43_branch_jump R270-R278). -/
def Obligations.BranchRules : Prop :=
  Mnemonic.bcc.HasOpcodes [(0x90, .rel)] ∧ Mnemonic.bcs.HasOpcodes [(0xB0, .rel)] ∧
  Mnemonic.beq.HasOpcodes [(0xF0, .rel)] ∧ Mnemonic.bmi.HasOpcodes [(0x30, .rel)] ∧
  Mnemonic.bne.HasOpcodes [(0xD0, .rel)] ∧ Mnemonic.bpl.HasOpcodes [(0x10, .rel)] ∧
  Mnemonic.bvc.HasOpcodes [(0x50, .rel)] ∧ Mnemonic.bvs.HasOpcodes [(0x70, .rel)] ∧
  ∀ (i : Instr) (k : Mnemonic) (off : Byte) (s : State) (pcn target : Word), i.view = .cpu k (.rel off) →
    pcn = s.cpu.pc + 2 → target = BitVec.ofInt 16 (pcn.toNat + off.toInt) →
    (branchTaken s.cpu.p k = some true → exec i s = .next { s with cpu := { s.cpu with
      pc := target, cycles := if target.toNat / 256 = pcn.toNat / 256 then 3 else 4 } }) ∧
    (branchTaken s.cpu.p k = some false → exec i s = .next { s with cpu := { s.cpu with pc := pcn, cycles := 2 } }) ∧
    branchTaken s.cpu.p k ≠ none

/-- JMP: absolute, and indirect with the pointer's second byte from the same page (43_branch_jump R279). -/
def Obligations.JmpRule : Prop :=
  Mnemonic.jmp.HasOpcodes [(0x4C, .abs), (0x6C, .ind)] ∧
  ∀ (i : Instr) (w : Word) (s : State),
    (i.view = .cpu .jmp (.src (.mem (.abs w))) →
      ∃ cyc, exec i s = .next { s with cpu := { s.cpu with pc := w, cycles := cyc } }) ∧
    (i.view = .cpu .jmp (.ind w) →
      ∃ cyc, exec i s = .next { s with cpu := { s.cpu with
        pc := w16 (s.read w) (s.read (BitVec.ofNat 16 (w.toNat / 256 * 256 + (w.toNat % 256 + 1) % 256))),
        cycles := cyc } })

/-- JSR pushes the address of its last byte, high byte first, then reads the target's high byte (43_branch_jump R280). -/
def Obligations.JsrRule : Prop :=
  Mnemonic.jsr.HasOpcodes [(0x20, .abs)] ∧
  ∀ (i : Instr) (w : Word) (s : State), s.MemoryCanonical → i.view = .cpu .jsr (.src (.mem (.abs w))) →
    ∃ t cyc, exec i s = .next t ∧ t.sched = s.sched ∧
      s.Pushed t [(stackAddr s.cpu.s, hi (s.cpu.pc + 2)), (stackAddr (s.cpu.s - 1), lo (s.cpu.pc + 2))] ∧
      t.cpu = { s.cpu with s := s.cpu.s - 2, pc := w16 (lo w) (t.read (s.cpu.pc + 2)), cycles := cyc }

/-- RTS pulls the return address and adds 1; RTI pulls every flag, then the program counter (43_branch_jump R281, R283;
10_state R45). -/
def Obligations.ReturnRules : Prop :=
  Mnemonic.rts.HasOpcodes [(0x60, .imp)] ∧ Mnemonic.rti.HasOpcodes [(0x40, .imp)] ∧
  ∀ (i : Instr) (s : State) (b1 b2 b3 : Byte),
    b1 = s.read (stackAddr (s.cpu.s + 1)) → b2 = s.read (stackAddr (s.cpu.s + 2)) → b3 = s.read (stackAddr (s.cpu.s + 3)) →
    (i.view = .cpu .rts .imp → ∃ cyc, exec i s = .next { s with cpu := { s.cpu with
      s := s.cpu.s + 2, pc := BitVec.ofNat 16 (b2.toNat * 256 + b1.toNat + 1), cycles := cyc } }) ∧
    (i.view = .cpu .rti .imp → ∃ cyc, exec i s = .next { s with cpu := { s.cpu with
      s := s.cpu.s + 3, pc := BitVec.ofNat 16 (b3.toNat * 256 + b2.toNat), cycles := cyc,
      p := ⟨b1.getLsbD 7, b1.getLsbD 6, b1.getLsbD 4, b1.getLsbD 3, b1.getLsbD 2, b1.getLsbD 1, b1.getLsbD 0⟩ } })

/-- BRK pushes its address plus 2 and the status with bits 4 and 5 set, sets I and reads the IRQ vector; D is kept
(43_branch_jump R282). -/
def Obligations.BrkRule : Prop :=
  Mnemonic.brk.HasOpcodes [(0x00, .imp)] ∧
  ∀ (i : Instr) (s : State), s.MemoryCanonical → i.view = .cpu .brk .imp →
    ∃ t cyc, exec i s = .next t ∧ t.sched = s.sched ∧
      s.Pushed t [(stackAddr s.cpu.s, hi (s.cpu.pc + 2)), (stackAddr (s.cpu.s - 1), lo (s.cpu.pc + 2)),
                  (stackAddr (s.cpu.s - 2), s.cpu.p.pack true)] ∧
      t.cpu = { s.cpu with s := s.cpu.s - 3, p := { s.cpu.p with i := true },
                           pc := w16 (s.read 0xFFFE) (s.read 0xFFFF), cycles := cyc }

/-! Stack and flags. -/

/-- PHA pushes A, PHP the flags with bits 4 and 5 set; PLA pulls A and sets N and Z, PLP pulls every flag, bit 5 ignored.
S wraps in page 1 (44_stack R300-R303). -/
def Obligations.StackRules : Prop :=
  Mnemonic.pha.HasOpcodes [(0x48, .imp)] ∧ Mnemonic.php.HasOpcodes [(0x08, .imp)] ∧
  Mnemonic.pla.HasOpcodes [(0x68, .imp)] ∧ Mnemonic.plp.HasOpcodes [(0x28, .imp)] ∧
  (∀ (i : Instr) (k : Mnemonic) (s : State), s.MemoryCanonical → i.view = .cpu k .imp → k = .pha ∨ k = .php →
    ∃ t v cyc, exec i s = .next t ∧ t.sched = s.sched ∧ s.Pushed t [(stackAddr s.cpu.s, v)] ∧
      t.cpu = { s.cpu with s := s.cpu.s - 1, pc := s.cpu.pc + 1, cycles := cyc } ∧
      (k = .pha → v = s.cpu.a) ∧
      (k = .php → v.getLsbD 7 = s.cpu.p.n ∧ v.getLsbD 6 = s.cpu.p.v ∧ v.getLsbD 5 = true ∧ v.getLsbD 4 = true ∧
        v.getLsbD 3 = s.cpu.p.d ∧ v.getLsbD 2 = s.cpu.p.i ∧ v.getLsbD 1 = s.cpu.p.z ∧ v.getLsbD 0 = s.cpu.p.c)) ∧
  ∀ (i : Instr) (s : State) (v : Byte), v = s.read (stackAddr (s.cpu.s + 1)) →
    (i.view = .cpu .pla .imp → ∃ cyc, exec i s = .next { s with cpu := { s.cpu with
      s := s.cpu.s + 1, a := v, p := s.cpu.p.withNZ v.toNat, pc := s.cpu.pc + 1, cycles := cyc } }) ∧
    (i.view = .cpu .plp .imp → ∃ cyc, exec i s = .next { s with cpu := { s.cpu with
      s := s.cpu.s + 1, pc := s.cpu.pc + 1, cycles := cyc,
      p := ⟨v.getLsbD 7, v.getLsbD 6, v.getLsbD 4, v.getLsbD 3, v.getLsbD 2, v.getLsbD 1, v.getLsbD 0⟩ } })

/-- The seven flag instructions and NOP: one byte, 2 cycles, nothing but the one flag and the program counter
(45_flags R310-R316; 43_branch_jump R284). -/
def Obligations.FlagRules : Prop :=
  Mnemonic.clc.HasOpcodes [(0x18, .imp)] ∧ Mnemonic.sec.HasOpcodes [(0x38, .imp)] ∧
  Mnemonic.cli.HasOpcodes [(0x58, .imp)] ∧ Mnemonic.sei.HasOpcodes [(0x78, .imp)] ∧
  Mnemonic.cld.HasOpcodes [(0xD8, .imp)] ∧ Mnemonic.sed.HasOpcodes [(0xF8, .imp)] ∧
  Mnemonic.clv.HasOpcodes [(0xB8, .imp)] ∧ Mnemonic.nop.HasOpcodes [(0xEA, .imp)] ∧
  ∀ (i : Instr) (k : Mnemonic) (s : State) (q : Flags), i.view = .cpu k .imp →
    (k = .clc ∧ q = { s.cpu.p with c := false } ∨ k = .sec ∧ q = { s.cpu.p with c := true } ∨
     k = .cli ∧ q = { s.cpu.p with i := false } ∨ k = .sei ∧ q = { s.cpu.p with i := true } ∨
     k = .cld ∧ q = { s.cpu.p with d := false } ∨ k = .sed ∧ q = { s.cpu.p with d := true } ∨
     k = .clv ∧ q = { s.cpu.p with v := false } ∨ k = .nop ∧ q = s.cpu.p) →
    exec i s = .next { s with cpu := { s.cpu with p := q, pc := s.cpu.pc + 1, cycles := 2 } }

/-! The Vector Processor. `w0` and `w1` are the words at `vpc` and after it; the fields are said in unsigned arithmetic. -/

/-- VCTR: how its fields lie in its words, and the move, the segment and the advance by two words
(46_vector_processor R322, R326, R330). The coordinate policy is the free value of notes/assumptions 6. -/
def Obligations.VctrRule : Prop :=
  (∀ (s : State) (w0 w1 : Nat), w0 = (s.vpRead s.vp.vpc).toNat → w1 = (s.vpRead (s.vp.vpc + 1)).toNat →
    w0 / 4096 ≤ 9 →
    s.vpFetch.view = .vp (.vctr (BitVec.ofNat 4 (w0 / 4096))
      { u0 := w0.testBit 11, ysign := w0.testBit 10, dy := BitVec.ofNat 10 w0, z := BitVec.ofNat 4 (w1 / 4096),
        u1 := w1.testBit 11, xsign := w1.testBit 10, dx := BitVec.ofNat 10 w1 })) ∧
  ∀ (i : Instr) (ls : BitVec 4) (f : VctrFields) (s : State) (x y : Int), i.view = .vp (.vctr ls f) →
    x = Config.vpCoordPolicy (s.vp.vx + signOf f.xsign * f.dx.toNat * scaleUnit s.vp.vscale ls) →
    y = Config.vpCoordPolicy (s.vp.vy + signOf f.ysign * f.dy.toNat * scaleUnit s.vp.vscale ls) →
    exec i s = .next { s with
      vp := { s.vp with vx := x, vy := y, vpc := s.vp.vpc + 2 },
      sched := { s.sched with segments := s.sched.segments ++ [⟨s.vp.vx, s.vp.vy, x, y, f.z⟩] } }

/-- SVEC: its one word, its local scale 2 to 5 and its magnitudes in multiples of 256 (46_vector_processor R336). The
coordinate policy is the free value of notes/assumptions 6. -/
def Obligations.SvecRule : Prop :=
  (∀ (s : State) (w0 : Nat), w0 = (s.vpRead s.vp.vpc).toNat → w0 / 4096 = 15 →
    s.vpFetch.view = .vp (.svec
      { s0 := w0.testBit 11, ysign := w0.testBit 10, dyh := BitVec.ofNat 2 (w0 / 256), z := BitVec.ofNat 4 (w0 / 16),
        s1 := w0.testBit 3, xsign := w0.testBit 2, dxh := BitVec.ofNat 2 w0 })) ∧
  ∀ (i : Instr) (f : SvecFields) (s : State) (x y : Int) (ls : BitVec 4), i.view = .vp (.svec f) →
    ls = BitVec.ofNat 4 (2 + 2 * f.s1.toNat + f.s0.toNat) →
    x = Config.vpCoordPolicy (s.vp.vx + signOf f.xsign * (256 * f.dxh.toNat) * scaleUnit s.vp.vscale ls) →
    y = Config.vpCoordPolicy (s.vp.vy + signOf f.ysign * (256 * f.dyh.toNat) * scaleUnit s.vp.vscale ls) →
    exec i s = .next { s with
      vp := { s.vp with vx := x, vy := y, vpc := s.vp.vpc + 1 },
      sched := { s.sched with segments := s.sched.segments ++ [⟨s.vp.vx, s.vp.vy, x, y, f.z⟩] } }

/-- LABS: two's complement coordinates, the global scale, and a segment with brightness 0 (46_vector_processor R331). The
coordinate policy is the free value of notes/assumptions 6. -/
def Obligations.LabsRule : Prop :=
  (∀ (s : State) (w0 w1 : Nat), w0 = (s.vpRead s.vp.vpc).toNat → w1 = (s.vpRead (s.vp.vpc + 1)).toNat →
    w0 / 4096 = 10 →
    s.vpFetch = .labs { y := BitVec.ofNat 12 w0, s := BitVec.ofNat 4 (w1 / 4096), x := BitVec.ofNat 12 w1 }) ∧
  ∀ (f : LabsFields) (s : State) (x y : Int),
    x = Config.vpCoordPolicy (((f.x.toNat : Int) - (if f.x.toNat < 2048 then 0 else 4096)) * 1024) →
    y = Config.vpCoordPolicy (((f.y.toNat : Int) - (if f.y.toNat < 2048 then 0 else 4096)) * 1024) →
    exec (.labs f) s = .next { s with
      vp := { s.vp with vx := x, vy := y, vscale := f.s, vpc := s.vp.vpc + 2 },
      sched := { s.sched with segments := s.sched.segments ++ [⟨s.vp.vx, s.vp.vy, x, y, 0⟩] } }

/-- HALT halts the Vector Processor at the HALT word and sets the interrupt line, whatever it was. JSRL, RTSL and JMPL work
on the circular stack of four entries: JSRL writes the entry at `vsp` only and RTSL reads the one below, and neither
overflow nor underflow stops anything (46_vector_processor R332-R335, R338). -/
def Obligations.VpControlRules : Prop :=
  (∀ (s : State) (w0 : Nat), w0 = (s.vpRead s.vp.vpc).toNat →
    (w0 / 4096 = 11 → s.vpFetch = .halt (BitVec.ofNat 12 w0)) ∧
    (w0 / 4096 = 12 → s.vpFetch = .jsrl (BitVec.ofNat 12 w0)) ∧
    (w0 / 4096 = 13 → s.vpFetch = .rtsl (BitVec.ofNat 12 w0)) ∧
    (w0 / 4096 = 14 → s.vpFetch = .jmpl (BitVec.ofNat 12 w0))) ∧
  ∀ (u : BitVec 12) (s : State),
    exec (.halt u) s = .next { s with vp := { s.vp with halted := true }, cpu := { s.cpu with irqPending := true } } ∧
    (∃ t, exec (.jsrl u) s = .next t ∧ t.cpu = s.cpu ∧ t.bus = s.bus ∧ t.sched = s.sched ∧
      t.vp = { s.vp with vpc := u, vstack := t.vp.vstack, vsp := t.vp.vsp } ∧
      t.vp.vsp.val = (s.vp.vsp.val + 1) % 4 ∧
      t.vp.vstack.get s.vp.vsp = s.vp.vpc + 1 ∧
      ∀ k, k ≠ s.vp.vsp → t.vp.vstack.get k = s.vp.vstack.get k) ∧
    (∃ t, exec (.rtsl u) s = .next t ∧ t.cpu = s.cpu ∧ t.bus = s.bus ∧ t.sched = s.sched ∧
      t.vp = { s.vp with vpc := s.vp.vstack.get t.vp.vsp, vsp := t.vp.vsp } ∧
      t.vp.vsp.val = (s.vp.vsp.val + 3) % 4) ∧
    exec (.jmpl u) s = .next { s with vp := { s.vp with vpc := u } }

/-- An instruction of the Vector Processor reads nothing of the CPU, of work RAM or of a device, and writes nothing of the
Bus: two machines with the same map, Vector Processor, vector RAM and ROM draw the same and go on the same. Of the CPU it
changes only the interrupt line, by HALT (46_vector_processor R345, R325). -/
def Obligations.VpIsolation : Prop :=
  ∀ s s' : State, s.bus.map.WellFormed → s.bus.map = s'.bus.map → s.vp = s'.vp → s.vp.halted = false →
    s.bus.vram = s'.bus.vram → s.bus.rom = s'.bus.rom →
    ∃ t t' g, exec s.vpFetch s = .next t ∧ exec s'.vpFetch s' = .next t' ∧ t.vp = t'.vp ∧
      t.bus = s.bus ∧ t.cpu = { s.cpu with irqPending := s.cpu.irqPending || t.vp.halted } ∧
      t.sched = { s.sched with segments := s.sched.segments ++ g } ∧
      t'.sched = { s'.sched with segments := s'.sched.segments ++ g } ∧
      (g.length = 1 ↔ s.vpWord0.toNat / 4096 ≤ 10 ∨ s.vpWord0.toNat / 4096 = 15) ∧ g.length ≤ 1

/-- A CPU step sees of the Vector Processor its halted flag only, and changes it only by starting it: two machines that
differ in the rest of it step alike (46_vector_processor R345; 10_state R55). -/
def Obligations.CpuBlindToVp : Prop :=
  ∀ s s' t : State, s'.cpu = s.cpu → s'.bus = s.bus → s'.sched = s.sched → s'.vp.halted = s.vp.halted →
    cpuStep s = .next t →
    ∃ t', cpuStep s' = .next t' ∧ t'.cpu = t.cpu ∧ t'.bus = t.bus ∧ t'.sched = t.sched ∧
      (t.vp = s.vp ∧ t'.vp = s'.vp ∨
       t.vp = { s.vp with vpc := 0, vsp := 0, halted := false } ∧
       t'.vp = { s'.vp with vpc := 0, vsp := 0, halted := false })

/-- `VpRun`: it never uses more than its budget, it stops at HALT or before the first instruction whose whole cost does not
fit, and otherwise it is one instruction and then the rest of the run (46_vector_processor R341). -/
def Obligations.VpRunContract : Prop :=
  ∀ (b : Nat) (s : State),
    (vpRun b s).1 ≤ b ∧
    ((vpRun b s).2.vp.halted = true ∨ b < (vpRun b s).1 + (vpRun b s).2.vpCost) ∧
    (s.vp.halted = true ∨ b < s.vpCost → vpRun b s = (0, s)) ∧
    (s.vp.halted = false → s.vpCost ≤ b →
      ∃ t, exec s.vpFetch s = .next t ∧
        vpRun b s = (s.vpCost + (vpRun (b - s.vpCost) t).1, (vpRun (b - s.vpCost) t).2))

/-- A run split in two, with the unspent budget carried over, is the unsplit run: the same state, the same segments, the
same cycles (46_vector_processor R343). -/
def Obligations.VpRunResumable : Prop :=
  ∀ (b1 b2 : Nat) (s : State),
    vpRun (b1 + b2) s =
      ((vpRun b1 s).1 + (vpRun (b1 - (vpRun b1 s).1 + b2) (vpRun b1 s).2).1,
       (vpRun (b1 - (vpRun b1 s).1 + b2) (vpRun b1 s).2).2)

/-! Cycles, flags and lines over the whole machine. -/

/-- The cycles that every CPU instruction returns: the published table, the crossing penalty of the reads in abs,X, abs,Y
and (zp),Y, and the branch penalties; nothing else costs more (70_reset_and_hazards R471, R472). -/
def Obligations.CycleTable : Prop :=
  ∀ (i : Instr) (s t : State) (k : Mnemonic) (md : Mode), i.view = .cpu k md → exec i s = .next t →
    (∀ o, md = .src o → k.reads = true →
      t.cpu.cycles = readCycles o + (match o with
        | .mem (.absx w) => if (w.toNat + s.cpu.x.toNat) % 65536 / 256 = w.toNat / 256 then 0 else 1
        | .mem (.absy w) => if (w.toNat + s.cpu.y.toNat) % 65536 / 256 = w.toNat / 256 then 0 else 1
        | .mem (.indy p) => if ((s.zpPointer p).toNat + s.cpu.y.toNat) % 65536 / 256 = (s.zpPointer p).toNat / 256
                            then 0 else 1
        | _ => 0)) ∧
    (∀ m, md = .src (.mem m) → k.stores = true → t.cpu.cycles = storeCycles m) ∧
    (∀ m, md = .src (.mem m) → k.modifies = true → some t.cpu.cycles = modifyCycles m) ∧
    (∀ off, md = .rel off →
      (branchTaken s.cpu.p k = some false → t.cpu.cycles = 2) ∧
      (branchTaken s.cpu.p k = some true →
        t.cpu.cycles = if t.cpu.pc.toNat / 256 = (s.cpu.pc.toNat + 2) % 65536 / 256 then 3 else 4)) ∧
    (k.reads = false → k.stores = false → k.branches = false → (k.modifies = true → md = .acc) →
      t.cpu.cycles = otherCycles k (match md with | .ind _ => true | _ => false))

/-- Which instructions write each flag; every other one leaves it (10_state R47). -/
def Obligations.FlagWriters : Prop :=
  ∀ (i : Instr) (s t : State) (k : Mnemonic) (md : Mode), i.view = .cpu k md → exec i s = .next t →
    (k ∉ [.adc, .sbc, .cmp, .cpx, .cpy, .asl, .lsr, .rol, .ror, .clc, .sec, .plp, .rti] → t.cpu.p.c = s.cpu.p.c) ∧
    (k ∉ [.adc, .sbc, .and, .ora, .eor, .bit, .cmp, .cpx, .cpy, .inc, .dec, .inx, .iny, .dex, .dey, .asl, .lsr, .rol,
          .ror, .lda, .ldx, .ldy, .tax, .tay, .txa, .tya, .tsx, .pla, .plp, .rti] →
      t.cpu.p.z = s.cpu.p.z ∧ t.cpu.p.n = s.cpu.p.n) ∧
    (k ∉ [.sei, .cli, .plp, .rti, .brk] → t.cpu.p.i = s.cpu.p.i) ∧
    (k ∉ [.sed, .cld, .plp, .rti] → t.cpu.p.d = s.cpu.p.d) ∧
    (k ∉ [.adc, .sbc, .bit, .clv, .plp, .rti] → t.cpu.p.v = s.cpu.p.v) ∧
    (k ∉ [.plp, .rti] → t.cpu.p.b = s.cpu.p.b)

/-- The break flag is unobservable: clearing it changes nothing else of a CPU step's outcome (10_state R46). -/
def Obligations.BreakFlagUnobservable : Prop :=
  ∀ s t : State, cpuStep s = .next t → ∃ t', cpuStep s.forgetB = .next t' ∧ t'.forgetB = t.forgetB

/-- Over every step of the machine, the interrupt line is raised only by HALT and cleared only by the IRQ entry
(10_state R48; 60_exceptions R410). -/
def Obligations.InterruptLine : Prop :=
  ∀ s t : State, step s = .next t →
    (s.cpu.irqPending = false → t.cpu.irqPending = true → s.sched.turn = .vp ∧ ∃ u, s.vpFetch = .halt u) ∧
    (s.cpu.irqPending = true → t.cpu.irqPending = false →
      s.sched.turn = .cpu ∧ s.cpu.nmiPending = false ∧ s.cpu.p.i = false ∧
      cpuStep s.beginFrame = .next ((s.beginFrame.setIrq false).interruptEntry 0xFFFE))

/-- A HALT hands the turn to the CPU, whose next step is the interrupt entry when I is clear, the NMI's before the IRQ's
(60_exceptions R415, R416; 70_reset_and_hazards R485). The turn is the model's own field, and its check is made at the
hand-over (DEDUCED: notes/assumptions 9 and 10). -/
def Obligations.HaltThenInterrupt : Prop :=
  ∀ (s : State) (u : BitVec 12), s.cpu.fault = none → s.sched.turn = .vp → s.cpu.p.i = false → s.vpFetch = .halt u →
    ∃ t, step s = .next t ∧ t.sched.turn = .cpu ∧ t.sched.vpCredit = 0 ∧ t.vp.halted = true ∧ t.vp.vpc = s.vp.vpc ∧
      t.cpu.irqPending = true ∧
      (s.cpu.nmiPending = true →
        step t = .next ((t.beginFrame.setNmi false).interruptEntry 0xFFFA).afterCpuStep) ∧
      (s.cpu.nmiPending = false →
        step t = .next ((t.beginFrame.setIrq false).interruptEntry 0xFFFE).afterCpuStep)

/-! The Scheduler. -/

/-- What the Scheduler does after a CPU step: the cycles are added to the total and to the frame, one NMI is requested when
the total reaches the phase, a running Vector Processor is credited, and the frame ends at the first boundary past its
budget that leaves the Vector Processor nothing to run (60_exceptions R420, R430; 70_reset_and_hazards R470). Who moves next
and the check at the hand-over are the model's reading of R430 and R341 (DEDUCED: notes/assumptions 9 and 10); that the
frame's variables live in State, and when `frameOpen` falls, is its choice (DESIGN CHOICE: notes/assumptions 11). The clock
ratio is the free value of notes/assumptions 7. -/
def Obligations.AfterCpuStep : Prop :=
  ∀ s t : State, s.cpu.fault = none → s.cpu.cycles ≤ 7 → s.NmiTimerOk → t = s.afterCpuStep →
    t.cpu = { s.cpu with
      cycleCount := s.cpu.cycleCount + s.cpu.cycles,
      nmiPending := s.cpu.nmiPending || decide (s.sched.nmiPhase ≤ s.cpu.cycleCount + s.cpu.cycles) } ∧
    t.bus = s.bus ∧ t.vp = s.vp ∧
    t.sched.nmiPhase =
      (if s.sched.nmiPhase ≤ s.cpu.cycleCount + s.cpu.cycles then s.sched.nmiPhase + 6144 else s.sched.nmiPhase) ∧
    t.sched.used = s.sched.used + s.cpu.cycles ∧ t.sched.budget = s.sched.budget ∧
    t.sched.segments = s.sched.segments ∧ t.sched.pendingInputs = s.sched.pendingInputs ∧
    t.sched.vpCredit =
      (if s.vp.halted then s.sched.vpCredit else s.sched.vpCredit + s.cpu.cycles * Config.vpClockRatio) ∧
    (t.vpReady = true → t.sched.turn = .vp ∧ t.sched.frameOpen = s.sched.frameOpen ∧
      t.sched.frameOvershoot = s.sched.frameOvershoot) ∧
    (t.vpReady = false → t.sched.turn = .cpu ∧
      (t.sched.used < t.sched.budget → t.sched.frameOpen = s.sched.frameOpen ∧
        t.sched.frameOvershoot = s.sched.frameOvershoot) ∧
      (t.sched.budget ≤ t.sched.used → t.sched.frameOpen = false ∧
        t.sched.frameOvershoot = t.sched.used - t.sched.budget))

/-- The steps of the machine are the Scheduler's loop body: from the CPU's turn, one CPU step and the instructions of its
quantum make exactly what one turn of the loop of 60_exceptions R430 makes, the frame's end included. The grain of a step is
the model's reading of R430 (DEDUCED: notes/assumptions 9), which this statement holds against it; beginning the frame inside
a step, and keeping its variables in State, is the model's choice (DESIGN CHOICE: notes/assumptions 11). -/
def Obligations.StepsRefineIteration : Prop :=
  ∀ s t : State, s.cpu.fault = none → s.sched.turn = .cpu → iteration s.beginFrame = .next t →
    ∃ n, steps (n + 1) s = .next (if t.cpu.fault.isSome then t else t.closeFrame)

/-- A frame is a run of steps: with the host's next snapshot queued, some number of steps makes exactly what
`advance_frame` of 60_exceptions R430 makes with that snapshot. The grain of a step is the model's reading of R430 (DEDUCED:
notes/assumptions 9); the queue of snapshots, the frame's variables in State and beginning the frame inside a step are the
model's choice (DESIGN CHOICE: notes/assumptions 11). -/
def Obligations.FrameIsRunOfSteps : Prop :=
  ∀ (s : State) (inp : Inputs) (rest : List Inputs),
    s.cpu.fault = none → s.sched.turn = .cpu → s.sched.frameOpen = false → s.sched.frameOvershoot ≤ 6 →
    s.sched.pendingInputs = inp :: rest →
    ∃ n t, advanceFrame inp (s.setSched { s.sched with pendingInputs := rest }) = .next t ∧
      steps (n + 1) s = .next t
end

