-- ==== Sys2Proof/Laws/Memory.lean ====
section
/-! SUPPORT. The backing stores: read after write, and every operation keeps the canonical form. -/

namespace Sys2Proof.Machine

theorem lookupCell_insert_ne (l : List Host.Cell) {k j : Nat} (v : Byte) (h : j ≠ k) :
    lookupCell (insertCell l k v) j = lookupCell l j := by
  induction l with
  | nil => simp only [insertCell]; split <;> simp [lookupCell, h.symm]
  | cons c t ih =>
    obtain ⟨i, w⟩ := c
    simp only [insertCell]
    split
    · split <;> simp [lookupCell, h.symm]
    · split
      · next hk => subst hk; split <;> simp [lookupCell, h.symm]
      · simp [lookupCell, ih]

theorem lookupCell_eq_zero {l : List Host.Cell} {k : Nat} (h : ∀ c ∈ l, c.1 ≠ k) : lookupCell l k = 0 := by
  induction l with
  | nil => rfl
  | cons c t ih =>
    simp only [lookupCell, if_neg (h c (by simp))]
    exact ih fun d hd => h d (by simp [hd])

theorem lookupCell_insert_self {l : List Host.Cell} (hl : l.Pairwise (fun p q => p.1 < q.1)) (k : Nat) (v : Byte) :
    lookupCell (insertCell l k v) k = v := by
  induction l with
  | nil =>
    simp only [insertCell]
    split
    · next hv => simp [lookupCell, hv]
    · simp [lookupCell]
  | cons c t ih =>
    obtain ⟨i, w⟩ := c
    obtain ⟨hc, ht⟩ := List.pairwise_cons.1 hl
    simp only [insertCell]
    split
    · next hk =>
      split
      · next hv =>
        rw [hv]
        refine lookupCell_eq_zero fun d hd => ?_
        rcases List.mem_cons.1 hd with rfl | hd
        · exact Nat.ne_of_gt hk
        · exact Nat.ne_of_gt (Nat.lt_trans hk (hc d hd))
      · simp [lookupCell]
    · split
      · next hk =>
        split
        · next hv =>
          rw [hv]
          refine lookupCell_eq_zero fun d hd => ?_
          rw [hk]
          exact Nat.ne_of_gt (hc d hd)
        · simp [lookupCell]
      · next hk => simp [lookupCell, Ne.symm hk, ih ht]

theorem mem_insertCell {l : List Host.Cell} {k : Nat} {v : Byte} {c : Host.Cell} (h : c ∈ insertCell l k v) :
    c ∈ l ∨ (c = (k, v) ∧ v ≠ 0) := by
  induction l with
  | nil => by_cases hv : v = 0 <;> simp_all [insertCell]
  | cons d t ih =>
    obtain ⟨i, w⟩ := d
    simp only [insertCell] at h
    split at h
    · split at h
      · exact .inl h
      · rcases List.mem_cons.1 h with rfl | h
        · exact .inr ⟨rfl, ‹_›⟩
        · exact .inl h
    · split at h
      · split at h
        · exact .inl (List.mem_cons_of_mem _ h)
        · rcases List.mem_cons.1 h with rfl | h
          · exact .inr ⟨rfl, ‹_›⟩
          · exact .inl (List.mem_cons_of_mem _ h)
      · rcases List.mem_cons.1 h with rfl | h
        · exact .inl (by simp)
        · rcases ih h with h | h
          · exact .inl (List.mem_cons_of_mem _ h)
          · exact .inr h

theorem sorted_insertCell {l : List Host.Cell} (hl : l.Pairwise (fun p q => p.1 < q.1)) (k : Nat) (v : Byte) :
    (insertCell l k v).Pairwise (fun p q => p.1 < q.1) := by
  induction l with
  | nil => simp only [insertCell]; split <;> simp
  | cons d t ih =>
    obtain ⟨i, w⟩ := d
    obtain ⟨hd, ht⟩ := List.pairwise_cons.1 hl
    simp only [insertCell]
    split
    · next hk =>
      split
      · exact hl
      · refine List.pairwise_cons.2 ⟨fun c hc => ?_, hl⟩
        rcases List.mem_cons.1 hc with rfl | hc
        · exact hk
        · exact Nat.lt_trans hk (hd c hc)
    · split
      · next hk =>
        split
        · exact ht
        · exact List.pairwise_cons.2 ⟨fun c hc => by simpa [hk] using hd c hc, ht⟩
      · refine List.pairwise_cons.2 ⟨fun c hc => ?_, ih ht⟩
        rcases mem_insertCell hc with hc | ⟨rfl, -⟩
        · exact hd c hc
        · simp only; omega

/-- A write reads back. -/
theorem Memory.get_set_self {n : Nat} {m : Memory} (h : m.wf n) (k : Nat) (v : Byte) : (m.set k v).get k = v :=
  lookupCell_insert_self h.1 k v

/-- A write leaves every other offset alone. -/
theorem Memory.get_set_ne (m : Memory) {k j : Nat} (v : Byte) (h : j ≠ k) : (m.set k v).get j = m.get j :=
  lookupCell_insert_ne m.cells v h

/-- A write inside a store keeps its canonical form. -/
theorem Memory.wf_set {n : Nat} {m : Memory} (h : m.wf n) {k : Nat} (hk : k < n) (v : Byte) : (m.set k v).wf n := by
  obtain ⟨h1, h2, h3⟩ := h
  refine ⟨sorted_insertCell h1 k v, fun c hc => ?_, fun c hc => ?_⟩
  · rcases mem_insertCell hc with hc | ⟨rfl, hv⟩
    · exact h2 c hc
    · exact hv
  · rcases mem_insertCell hc with hc | ⟨rfl, -⟩
    · exact h3 c hc
    · exact hk

theorem Memory.wf_empty (n : Nat) : (Memory.mk []).wf n := by simp [Memory.wf]

/-- Equal contents are equal data: two stores in canonical form that read the same are the same. -/
theorem Memory.eq_of_get_eq {n : Nat} {m m' : Memory} (h : m.wf n) (h' : m'.wf n) (e : ∀ k, m.get k = m'.get k) :
    m = m' := by
  obtain ⟨l⟩ := m
  obtain ⟨l'⟩ := m'
  congr 1
  obtain ⟨hs, hz, -⟩ := h
  obtain ⟨hs', hz', -⟩ := h'
  replace e : ∀ k, lookupCell l k = lookupCell l' k := e
  simp only at hs hz hs' hz'
  induction l generalizing l' with
  | nil =>
    cases l' with
    | nil => rfl
    | cons c t =>
      have := e c.1
      simp only [lookupCell] at this
      exact absurd this.symm (by simpa using hz' c (by simp))
  | cons c t ih =>
    cases l' with
    | nil =>
      have := e c.1
      simp only [lookupCell] at this
      exact absurd this (by simpa using hz c (by simp))
    | cons d t' =>
      obtain ⟨i, v⟩ := c
      obtain ⟨j, w⟩ := d
      obtain ⟨hc, ht⟩ := List.pairwise_cons.1 hs
      obtain ⟨hd, ht'⟩ := List.pairwise_cons.1 hs'
      have hv : v ≠ 0 := hz (i, v) (by simp)
      have hw : w ≠ 0 := hz' (j, w) (by simp)
      have zt : lookupCell t i = 0 := lookupCell_eq_zero fun x hx => (Nat.ne_of_lt (hc x hx)).symm
      have zt' : lookupCell t' j = 0 := lookupCell_eq_zero fun x hx => (Nat.ne_of_lt (hd x hx)).symm
      have hij : i = j := by
        rcases Nat.lt_trichotomy i j with hlt | heq | hgt
        · have h0 : lookupCell t' i = 0 :=
            lookupCell_eq_zero fun x hx => (Nat.ne_of_lt (Nat.lt_trans hlt (hd x hx))).symm
          have := e i
          rw [lookupCell, if_pos rfl, lookupCell, if_neg (Nat.ne_of_lt hlt).symm, h0] at this
          exact absurd this hv
        · exact heq
        · have h0 : lookupCell t j = 0 :=
            lookupCell_eq_zero fun x hx => (Nat.ne_of_lt (Nat.lt_trans hgt (hc x hx))).symm
          have := e j
          rw [lookupCell, if_neg (Nat.ne_of_lt hgt).symm, h0, lookupCell, if_pos rfl] at this
          exact absurd this.symm hw
      subst hij
      have hvw : v = w := by simpa [lookupCell] using e i
      subst hvw
      have : t = t' := by
        refine ih t' ht (fun x hx => hz x (by simp [hx])) ht' (fun x hx => hz' x (by simp [hx])) fun k => ?_
        by_cases hk : i = k
        · subst hk; rw [zt, zt']
        · simpa [lookupCell, hk] using e k
      rw [this]

end Sys2Proof.Machine
end

