-- ==== Sys2Proof/Laws/State.lean ====
section
/-! SUPPORT. One lemma per field per update of the state, each true by rfl, so that no proof unfolds an update. -/

namespace Sys2Proof.Machine

variable (s : State)

/-! What `setA` changes and what it leaves. -/

@[simp] theorem State.setA_a (v : Byte) : (s.setA v).cpu.a = v := rfl
@[simp] theorem State.setA_x (v : Byte) : (s.setA v).cpu.x = s.cpu.x := rfl
@[simp] theorem State.setA_y (v : Byte) : (s.setA v).cpu.y = s.cpu.y := rfl
@[simp] theorem State.setA_s (v : Byte) : (s.setA v).cpu.s = s.cpu.s := rfl
@[simp] theorem State.setA_pc (v : Byte) : (s.setA v).cpu.pc = s.cpu.pc := rfl
@[simp] theorem State.setA_p (v : Byte) : (s.setA v).cpu.p = s.cpu.p := rfl
@[simp] theorem State.setA_irqPending (v : Byte) : (s.setA v).cpu.irqPending = s.cpu.irqPending := rfl
@[simp] theorem State.setA_nmiPending (v : Byte) : (s.setA v).cpu.nmiPending = s.cpu.nmiPending := rfl
@[simp] theorem State.setA_cycleCount (v : Byte) : (s.setA v).cpu.cycleCount = s.cpu.cycleCount := rfl
@[simp] theorem State.setA_fault (v : Byte) : (s.setA v).cpu.fault = s.cpu.fault := rfl
@[simp] theorem State.setA_cycles (v : Byte) : (s.setA v).cpu.cycles = s.cpu.cycles := rfl
@[simp] theorem State.setA_bus (v : Byte) : (s.setA v).bus = s.bus := rfl
@[simp] theorem State.setA_vp (v : Byte) : (s.setA v).vp = s.vp := rfl
@[simp] theorem State.setA_sched (v : Byte) : (s.setA v).sched = s.sched := rfl

/-! What `setX` changes and what it leaves. -/

@[simp] theorem State.setX_a (v : Byte) : (s.setX v).cpu.a = s.cpu.a := rfl
@[simp] theorem State.setX_x (v : Byte) : (s.setX v).cpu.x = v := rfl
@[simp] theorem State.setX_y (v : Byte) : (s.setX v).cpu.y = s.cpu.y := rfl
@[simp] theorem State.setX_s (v : Byte) : (s.setX v).cpu.s = s.cpu.s := rfl
@[simp] theorem State.setX_pc (v : Byte) : (s.setX v).cpu.pc = s.cpu.pc := rfl
@[simp] theorem State.setX_p (v : Byte) : (s.setX v).cpu.p = s.cpu.p := rfl
@[simp] theorem State.setX_irqPending (v : Byte) : (s.setX v).cpu.irqPending = s.cpu.irqPending := rfl
@[simp] theorem State.setX_nmiPending (v : Byte) : (s.setX v).cpu.nmiPending = s.cpu.nmiPending := rfl
@[simp] theorem State.setX_cycleCount (v : Byte) : (s.setX v).cpu.cycleCount = s.cpu.cycleCount := rfl
@[simp] theorem State.setX_fault (v : Byte) : (s.setX v).cpu.fault = s.cpu.fault := rfl
@[simp] theorem State.setX_cycles (v : Byte) : (s.setX v).cpu.cycles = s.cpu.cycles := rfl
@[simp] theorem State.setX_bus (v : Byte) : (s.setX v).bus = s.bus := rfl
@[simp] theorem State.setX_vp (v : Byte) : (s.setX v).vp = s.vp := rfl
@[simp] theorem State.setX_sched (v : Byte) : (s.setX v).sched = s.sched := rfl

/-! What `setY` changes and what it leaves. -/

@[simp] theorem State.setY_a (v : Byte) : (s.setY v).cpu.a = s.cpu.a := rfl
@[simp] theorem State.setY_x (v : Byte) : (s.setY v).cpu.x = s.cpu.x := rfl
@[simp] theorem State.setY_y (v : Byte) : (s.setY v).cpu.y = v := rfl
@[simp] theorem State.setY_s (v : Byte) : (s.setY v).cpu.s = s.cpu.s := rfl
@[simp] theorem State.setY_pc (v : Byte) : (s.setY v).cpu.pc = s.cpu.pc := rfl
@[simp] theorem State.setY_p (v : Byte) : (s.setY v).cpu.p = s.cpu.p := rfl
@[simp] theorem State.setY_irqPending (v : Byte) : (s.setY v).cpu.irqPending = s.cpu.irqPending := rfl
@[simp] theorem State.setY_nmiPending (v : Byte) : (s.setY v).cpu.nmiPending = s.cpu.nmiPending := rfl
@[simp] theorem State.setY_cycleCount (v : Byte) : (s.setY v).cpu.cycleCount = s.cpu.cycleCount := rfl
@[simp] theorem State.setY_fault (v : Byte) : (s.setY v).cpu.fault = s.cpu.fault := rfl
@[simp] theorem State.setY_cycles (v : Byte) : (s.setY v).cpu.cycles = s.cpu.cycles := rfl
@[simp] theorem State.setY_bus (v : Byte) : (s.setY v).bus = s.bus := rfl
@[simp] theorem State.setY_vp (v : Byte) : (s.setY v).vp = s.vp := rfl
@[simp] theorem State.setY_sched (v : Byte) : (s.setY v).sched = s.sched := rfl

/-! What `setS` changes and what it leaves. -/

@[simp] theorem State.setS_a (v : Byte) : (s.setS v).cpu.a = s.cpu.a := rfl
@[simp] theorem State.setS_x (v : Byte) : (s.setS v).cpu.x = s.cpu.x := rfl
@[simp] theorem State.setS_y (v : Byte) : (s.setS v).cpu.y = s.cpu.y := rfl
@[simp] theorem State.setS_s (v : Byte) : (s.setS v).cpu.s = v := rfl
@[simp] theorem State.setS_pc (v : Byte) : (s.setS v).cpu.pc = s.cpu.pc := rfl
@[simp] theorem State.setS_p (v : Byte) : (s.setS v).cpu.p = s.cpu.p := rfl
@[simp] theorem State.setS_irqPending (v : Byte) : (s.setS v).cpu.irqPending = s.cpu.irqPending := rfl
@[simp] theorem State.setS_nmiPending (v : Byte) : (s.setS v).cpu.nmiPending = s.cpu.nmiPending := rfl
@[simp] theorem State.setS_cycleCount (v : Byte) : (s.setS v).cpu.cycleCount = s.cpu.cycleCount := rfl
@[simp] theorem State.setS_fault (v : Byte) : (s.setS v).cpu.fault = s.cpu.fault := rfl
@[simp] theorem State.setS_cycles (v : Byte) : (s.setS v).cpu.cycles = s.cpu.cycles := rfl
@[simp] theorem State.setS_bus (v : Byte) : (s.setS v).bus = s.bus := rfl
@[simp] theorem State.setS_vp (v : Byte) : (s.setS v).vp = s.vp := rfl
@[simp] theorem State.setS_sched (v : Byte) : (s.setS v).sched = s.sched := rfl

/-! What `setPC` changes and what it leaves. -/

@[simp] theorem State.setPC_a (v : Word) : (s.setPC v).cpu.a = s.cpu.a := rfl
@[simp] theorem State.setPC_x (v : Word) : (s.setPC v).cpu.x = s.cpu.x := rfl
@[simp] theorem State.setPC_y (v : Word) : (s.setPC v).cpu.y = s.cpu.y := rfl
@[simp] theorem State.setPC_s (v : Word) : (s.setPC v).cpu.s = s.cpu.s := rfl
@[simp] theorem State.setPC_pc (v : Word) : (s.setPC v).cpu.pc = v := rfl
@[simp] theorem State.setPC_p (v : Word) : (s.setPC v).cpu.p = s.cpu.p := rfl
@[simp] theorem State.setPC_irqPending (v : Word) : (s.setPC v).cpu.irqPending = s.cpu.irqPending := rfl
@[simp] theorem State.setPC_nmiPending (v : Word) : (s.setPC v).cpu.nmiPending = s.cpu.nmiPending := rfl
@[simp] theorem State.setPC_cycleCount (v : Word) : (s.setPC v).cpu.cycleCount = s.cpu.cycleCount := rfl
@[simp] theorem State.setPC_fault (v : Word) : (s.setPC v).cpu.fault = s.cpu.fault := rfl
@[simp] theorem State.setPC_cycles (v : Word) : (s.setPC v).cpu.cycles = s.cpu.cycles := rfl
@[simp] theorem State.setPC_bus (v : Word) : (s.setPC v).bus = s.bus := rfl
@[simp] theorem State.setPC_vp (v : Word) : (s.setPC v).vp = s.vp := rfl
@[simp] theorem State.setPC_sched (v : Word) : (s.setPC v).sched = s.sched := rfl

/-! What `setP` changes and what it leaves. -/

@[simp] theorem State.setP_a (v : Flags) : (s.setP v).cpu.a = s.cpu.a := rfl
@[simp] theorem State.setP_x (v : Flags) : (s.setP v).cpu.x = s.cpu.x := rfl
@[simp] theorem State.setP_y (v : Flags) : (s.setP v).cpu.y = s.cpu.y := rfl
@[simp] theorem State.setP_s (v : Flags) : (s.setP v).cpu.s = s.cpu.s := rfl
@[simp] theorem State.setP_pc (v : Flags) : (s.setP v).cpu.pc = s.cpu.pc := rfl
@[simp] theorem State.setP_p (v : Flags) : (s.setP v).cpu.p = v := rfl
@[simp] theorem State.setP_irqPending (v : Flags) : (s.setP v).cpu.irqPending = s.cpu.irqPending := rfl
@[simp] theorem State.setP_nmiPending (v : Flags) : (s.setP v).cpu.nmiPending = s.cpu.nmiPending := rfl
@[simp] theorem State.setP_cycleCount (v : Flags) : (s.setP v).cpu.cycleCount = s.cpu.cycleCount := rfl
@[simp] theorem State.setP_fault (v : Flags) : (s.setP v).cpu.fault = s.cpu.fault := rfl
@[simp] theorem State.setP_cycles (v : Flags) : (s.setP v).cpu.cycles = s.cpu.cycles := rfl
@[simp] theorem State.setP_bus (v : Flags) : (s.setP v).bus = s.bus := rfl
@[simp] theorem State.setP_vp (v : Flags) : (s.setP v).vp = s.vp := rfl
@[simp] theorem State.setP_sched (v : Flags) : (s.setP v).sched = s.sched := rfl

/-! What `setIrq` changes and what it leaves. -/

@[simp] theorem State.setIrq_a (v : Bool) : (s.setIrq v).cpu.a = s.cpu.a := rfl
@[simp] theorem State.setIrq_x (v : Bool) : (s.setIrq v).cpu.x = s.cpu.x := rfl
@[simp] theorem State.setIrq_y (v : Bool) : (s.setIrq v).cpu.y = s.cpu.y := rfl
@[simp] theorem State.setIrq_s (v : Bool) : (s.setIrq v).cpu.s = s.cpu.s := rfl
@[simp] theorem State.setIrq_pc (v : Bool) : (s.setIrq v).cpu.pc = s.cpu.pc := rfl
@[simp] theorem State.setIrq_p (v : Bool) : (s.setIrq v).cpu.p = s.cpu.p := rfl
@[simp] theorem State.setIrq_irqPending (v : Bool) : (s.setIrq v).cpu.irqPending = v := rfl
@[simp] theorem State.setIrq_nmiPending (v : Bool) : (s.setIrq v).cpu.nmiPending = s.cpu.nmiPending := rfl
@[simp] theorem State.setIrq_cycleCount (v : Bool) : (s.setIrq v).cpu.cycleCount = s.cpu.cycleCount := rfl
@[simp] theorem State.setIrq_fault (v : Bool) : (s.setIrq v).cpu.fault = s.cpu.fault := rfl
@[simp] theorem State.setIrq_cycles (v : Bool) : (s.setIrq v).cpu.cycles = s.cpu.cycles := rfl
@[simp] theorem State.setIrq_bus (v : Bool) : (s.setIrq v).bus = s.bus := rfl
@[simp] theorem State.setIrq_vp (v : Bool) : (s.setIrq v).vp = s.vp := rfl
@[simp] theorem State.setIrq_sched (v : Bool) : (s.setIrq v).sched = s.sched := rfl

/-! What `setNmi` changes and what it leaves. -/

@[simp] theorem State.setNmi_a (v : Bool) : (s.setNmi v).cpu.a = s.cpu.a := rfl
@[simp] theorem State.setNmi_x (v : Bool) : (s.setNmi v).cpu.x = s.cpu.x := rfl
@[simp] theorem State.setNmi_y (v : Bool) : (s.setNmi v).cpu.y = s.cpu.y := rfl
@[simp] theorem State.setNmi_s (v : Bool) : (s.setNmi v).cpu.s = s.cpu.s := rfl
@[simp] theorem State.setNmi_pc (v : Bool) : (s.setNmi v).cpu.pc = s.cpu.pc := rfl
@[simp] theorem State.setNmi_p (v : Bool) : (s.setNmi v).cpu.p = s.cpu.p := rfl
@[simp] theorem State.setNmi_irqPending (v : Bool) : (s.setNmi v).cpu.irqPending = s.cpu.irqPending := rfl
@[simp] theorem State.setNmi_nmiPending (v : Bool) : (s.setNmi v).cpu.nmiPending = v := rfl
@[simp] theorem State.setNmi_cycleCount (v : Bool) : (s.setNmi v).cpu.cycleCount = s.cpu.cycleCount := rfl
@[simp] theorem State.setNmi_fault (v : Bool) : (s.setNmi v).cpu.fault = s.cpu.fault := rfl
@[simp] theorem State.setNmi_cycles (v : Bool) : (s.setNmi v).cpu.cycles = s.cpu.cycles := rfl
@[simp] theorem State.setNmi_bus (v : Bool) : (s.setNmi v).bus = s.bus := rfl
@[simp] theorem State.setNmi_vp (v : Bool) : (s.setNmi v).vp = s.vp := rfl
@[simp] theorem State.setNmi_sched (v : Bool) : (s.setNmi v).sched = s.sched := rfl

/-! What `setCycleCount` changes and what it leaves. -/

@[simp] theorem State.setCycleCount_a (v : Nat) : (s.setCycleCount v).cpu.a = s.cpu.a := rfl
@[simp] theorem State.setCycleCount_x (v : Nat) : (s.setCycleCount v).cpu.x = s.cpu.x := rfl
@[simp] theorem State.setCycleCount_y (v : Nat) : (s.setCycleCount v).cpu.y = s.cpu.y := rfl
@[simp] theorem State.setCycleCount_s (v : Nat) : (s.setCycleCount v).cpu.s = s.cpu.s := rfl
@[simp] theorem State.setCycleCount_pc (v : Nat) : (s.setCycleCount v).cpu.pc = s.cpu.pc := rfl
@[simp] theorem State.setCycleCount_p (v : Nat) : (s.setCycleCount v).cpu.p = s.cpu.p := rfl
@[simp] theorem State.setCycleCount_irqPending (v : Nat) : (s.setCycleCount v).cpu.irqPending = s.cpu.irqPending := rfl
@[simp] theorem State.setCycleCount_nmiPending (v : Nat) : (s.setCycleCount v).cpu.nmiPending = s.cpu.nmiPending := rfl
@[simp] theorem State.setCycleCount_cycleCount (v : Nat) : (s.setCycleCount v).cpu.cycleCount = v := rfl
@[simp] theorem State.setCycleCount_fault (v : Nat) : (s.setCycleCount v).cpu.fault = s.cpu.fault := rfl
@[simp] theorem State.setCycleCount_cycles (v : Nat) : (s.setCycleCount v).cpu.cycles = s.cpu.cycles := rfl
@[simp] theorem State.setCycleCount_bus (v : Nat) : (s.setCycleCount v).bus = s.bus := rfl
@[simp] theorem State.setCycleCount_vp (v : Nat) : (s.setCycleCount v).vp = s.vp := rfl
@[simp] theorem State.setCycleCount_sched (v : Nat) : (s.setCycleCount v).sched = s.sched := rfl

/-! What `setFault` changes and what it leaves. -/

@[simp] theorem State.setFault_a (v : Option FaultInfo) : (s.setFault v).cpu.a = s.cpu.a := rfl
@[simp] theorem State.setFault_x (v : Option FaultInfo) : (s.setFault v).cpu.x = s.cpu.x := rfl
@[simp] theorem State.setFault_y (v : Option FaultInfo) : (s.setFault v).cpu.y = s.cpu.y := rfl
@[simp] theorem State.setFault_s (v : Option FaultInfo) : (s.setFault v).cpu.s = s.cpu.s := rfl
@[simp] theorem State.setFault_pc (v : Option FaultInfo) : (s.setFault v).cpu.pc = s.cpu.pc := rfl
@[simp] theorem State.setFault_p (v : Option FaultInfo) : (s.setFault v).cpu.p = s.cpu.p := rfl
@[simp] theorem State.setFault_irqPending (v : Option FaultInfo) : (s.setFault v).cpu.irqPending = s.cpu.irqPending := rfl
@[simp] theorem State.setFault_nmiPending (v : Option FaultInfo) : (s.setFault v).cpu.nmiPending = s.cpu.nmiPending := rfl
@[simp] theorem State.setFault_cycleCount (v : Option FaultInfo) : (s.setFault v).cpu.cycleCount = s.cpu.cycleCount := rfl
@[simp] theorem State.setFault_fault (v : Option FaultInfo) : (s.setFault v).cpu.fault = v := rfl
@[simp] theorem State.setFault_cycles (v : Option FaultInfo) : (s.setFault v).cpu.cycles = s.cpu.cycles := rfl
@[simp] theorem State.setFault_bus (v : Option FaultInfo) : (s.setFault v).bus = s.bus := rfl
@[simp] theorem State.setFault_vp (v : Option FaultInfo) : (s.setFault v).vp = s.vp := rfl
@[simp] theorem State.setFault_sched (v : Option FaultInfo) : (s.setFault v).sched = s.sched := rfl

/-! What `setCycles` changes and what it leaves. -/

@[simp] theorem State.setCycles_a (v : Nat) : (s.setCycles v).cpu.a = s.cpu.a := rfl
@[simp] theorem State.setCycles_x (v : Nat) : (s.setCycles v).cpu.x = s.cpu.x := rfl
@[simp] theorem State.setCycles_y (v : Nat) : (s.setCycles v).cpu.y = s.cpu.y := rfl
@[simp] theorem State.setCycles_s (v : Nat) : (s.setCycles v).cpu.s = s.cpu.s := rfl
@[simp] theorem State.setCycles_pc (v : Nat) : (s.setCycles v).cpu.pc = s.cpu.pc := rfl
@[simp] theorem State.setCycles_p (v : Nat) : (s.setCycles v).cpu.p = s.cpu.p := rfl
@[simp] theorem State.setCycles_irqPending (v : Nat) : (s.setCycles v).cpu.irqPending = s.cpu.irqPending := rfl
@[simp] theorem State.setCycles_nmiPending (v : Nat) : (s.setCycles v).cpu.nmiPending = s.cpu.nmiPending := rfl
@[simp] theorem State.setCycles_cycleCount (v : Nat) : (s.setCycles v).cpu.cycleCount = s.cpu.cycleCount := rfl
@[simp] theorem State.setCycles_fault (v : Nat) : (s.setCycles v).cpu.fault = s.cpu.fault := rfl
@[simp] theorem State.setCycles_cycles (v : Nat) : (s.setCycles v).cpu.cycles = v := rfl
@[simp] theorem State.setCycles_bus (v : Nat) : (s.setCycles v).bus = s.bus := rfl
@[simp] theorem State.setCycles_vp (v : Nat) : (s.setCycles v).vp = s.vp := rfl
@[simp] theorem State.setCycles_sched (v : Nat) : (s.setCycles v).sched = s.sched := rfl

/-! What `setRam` changes and what it leaves. -/

@[simp] theorem State.setRam_cpu (v : Memory) : (s.setRam v).cpu = s.cpu := rfl
@[simp] theorem State.setRam_map (v : Memory) : (s.setRam v).bus.map = s.bus.map := rfl
@[simp] theorem State.setRam_ram (v : Memory) : (s.setRam v).bus.ram = v := rfl
@[simp] theorem State.setRam_vram (v : Memory) : (s.setRam v).bus.vram = s.bus.vram := rfl
@[simp] theorem State.setRam_rom (v : Memory) : (s.setRam v).bus.rom = s.bus.rom := rfl
@[simp] theorem State.setRam_outLatch (v : Memory) : (s.setRam v).bus.outLatch = s.bus.outLatch := rfl
@[simp] theorem State.setRam_snapshot (v : Memory) : (s.setRam v).bus.snapshot = s.bus.snapshot := rfl
@[simp] theorem State.setRam_soundEvents (v : Memory) : (s.setRam v).bus.soundEvents = s.bus.soundEvents := rfl
@[simp] theorem State.setRam_vp (v : Memory) : (s.setRam v).vp = s.vp := rfl
@[simp] theorem State.setRam_sched (v : Memory) : (s.setRam v).sched = s.sched := rfl

/-! What `setVram` changes and what it leaves. -/

@[simp] theorem State.setVram_cpu (v : Memory) : (s.setVram v).cpu = s.cpu := rfl
@[simp] theorem State.setVram_map (v : Memory) : (s.setVram v).bus.map = s.bus.map := rfl
@[simp] theorem State.setVram_ram (v : Memory) : (s.setVram v).bus.ram = s.bus.ram := rfl
@[simp] theorem State.setVram_vram (v : Memory) : (s.setVram v).bus.vram = v := rfl
@[simp] theorem State.setVram_rom (v : Memory) : (s.setVram v).bus.rom = s.bus.rom := rfl
@[simp] theorem State.setVram_outLatch (v : Memory) : (s.setVram v).bus.outLatch = s.bus.outLatch := rfl
@[simp] theorem State.setVram_snapshot (v : Memory) : (s.setVram v).bus.snapshot = s.bus.snapshot := rfl
@[simp] theorem State.setVram_soundEvents (v : Memory) : (s.setVram v).bus.soundEvents = s.bus.soundEvents := rfl
@[simp] theorem State.setVram_vp (v : Memory) : (s.setVram v).vp = s.vp := rfl
@[simp] theorem State.setVram_sched (v : Memory) : (s.setVram v).sched = s.sched := rfl

/-! What `setRom` changes and what it leaves. -/

@[simp] theorem State.setRom_cpu (v : Memory) : (s.setRom v).cpu = s.cpu := rfl
@[simp] theorem State.setRom_map (v : Memory) : (s.setRom v).bus.map = s.bus.map := rfl
@[simp] theorem State.setRom_ram (v : Memory) : (s.setRom v).bus.ram = s.bus.ram := rfl
@[simp] theorem State.setRom_vram (v : Memory) : (s.setRom v).bus.vram = s.bus.vram := rfl
@[simp] theorem State.setRom_rom (v : Memory) : (s.setRom v).bus.rom = v := rfl
@[simp] theorem State.setRom_outLatch (v : Memory) : (s.setRom v).bus.outLatch = s.bus.outLatch := rfl
@[simp] theorem State.setRom_snapshot (v : Memory) : (s.setRom v).bus.snapshot = s.bus.snapshot := rfl
@[simp] theorem State.setRom_soundEvents (v : Memory) : (s.setRom v).bus.soundEvents = s.bus.soundEvents := rfl
@[simp] theorem State.setRom_vp (v : Memory) : (s.setRom v).vp = s.vp := rfl
@[simp] theorem State.setRom_sched (v : Memory) : (s.setRom v).sched = s.sched := rfl

/-! What `setLatch` changes and what it leaves. -/

@[simp] theorem State.setLatch_cpu (v : Byte) : (s.setLatch v).cpu = s.cpu := rfl
@[simp] theorem State.setLatch_map (v : Byte) : (s.setLatch v).bus.map = s.bus.map := rfl
@[simp] theorem State.setLatch_ram (v : Byte) : (s.setLatch v).bus.ram = s.bus.ram := rfl
@[simp] theorem State.setLatch_vram (v : Byte) : (s.setLatch v).bus.vram = s.bus.vram := rfl
@[simp] theorem State.setLatch_rom (v : Byte) : (s.setLatch v).bus.rom = s.bus.rom := rfl
@[simp] theorem State.setLatch_outLatch (v : Byte) : (s.setLatch v).bus.outLatch = v := rfl
@[simp] theorem State.setLatch_snapshot (v : Byte) : (s.setLatch v).bus.snapshot = s.bus.snapshot := rfl
@[simp] theorem State.setLatch_soundEvents (v : Byte) : (s.setLatch v).bus.soundEvents = s.bus.soundEvents := rfl
@[simp] theorem State.setLatch_vp (v : Byte) : (s.setLatch v).vp = s.vp := rfl
@[simp] theorem State.setLatch_sched (v : Byte) : (s.setLatch v).sched = s.sched := rfl

/-! What `setSnapshot` changes and what it leaves. -/

@[simp] theorem State.setSnapshot_cpu (v : Inputs) : (s.setSnapshot v).cpu = s.cpu := rfl
@[simp] theorem State.setSnapshot_map (v : Inputs) : (s.setSnapshot v).bus.map = s.bus.map := rfl
@[simp] theorem State.setSnapshot_ram (v : Inputs) : (s.setSnapshot v).bus.ram = s.bus.ram := rfl
@[simp] theorem State.setSnapshot_vram (v : Inputs) : (s.setSnapshot v).bus.vram = s.bus.vram := rfl
@[simp] theorem State.setSnapshot_rom (v : Inputs) : (s.setSnapshot v).bus.rom = s.bus.rom := rfl
@[simp] theorem State.setSnapshot_outLatch (v : Inputs) : (s.setSnapshot v).bus.outLatch = s.bus.outLatch := rfl
@[simp] theorem State.setSnapshot_snapshot (v : Inputs) : (s.setSnapshot v).bus.snapshot = v := rfl
@[simp] theorem State.setSnapshot_soundEvents (v : Inputs) : (s.setSnapshot v).bus.soundEvents = s.bus.soundEvents := rfl
@[simp] theorem State.setSnapshot_vp (v : Inputs) : (s.setSnapshot v).vp = s.vp := rfl
@[simp] theorem State.setSnapshot_sched (v : Inputs) : (s.setSnapshot v).sched = s.sched := rfl

/-! What `setSound` changes and what it leaves. -/

@[simp] theorem State.setSound_cpu (v : List SoundEvent) : (s.setSound v).cpu = s.cpu := rfl
@[simp] theorem State.setSound_map (v : List SoundEvent) : (s.setSound v).bus.map = s.bus.map := rfl
@[simp] theorem State.setSound_ram (v : List SoundEvent) : (s.setSound v).bus.ram = s.bus.ram := rfl
@[simp] theorem State.setSound_vram (v : List SoundEvent) : (s.setSound v).bus.vram = s.bus.vram := rfl
@[simp] theorem State.setSound_rom (v : List SoundEvent) : (s.setSound v).bus.rom = s.bus.rom := rfl
@[simp] theorem State.setSound_outLatch (v : List SoundEvent) : (s.setSound v).bus.outLatch = s.bus.outLatch := rfl
@[simp] theorem State.setSound_snapshot (v : List SoundEvent) : (s.setSound v).bus.snapshot = s.bus.snapshot := rfl
@[simp] theorem State.setSound_soundEvents (v : List SoundEvent) : (s.setSound v).bus.soundEvents = v := rfl
@[simp] theorem State.setSound_vp (v : List SoundEvent) : (s.setSound v).vp = s.vp := rfl
@[simp] theorem State.setSound_sched (v : List SoundEvent) : (s.setSound v).sched = s.sched := rfl

/-! What `setVp` changes and what it leaves. -/

@[simp] theorem State.setVp_cpu (v : VpState) : (s.setVp v).cpu = s.cpu := rfl
@[simp] theorem State.setVp_bus (v : VpState) : (s.setVp v).bus = s.bus := rfl
@[simp] theorem State.setVp_vp (v : VpState) : (s.setVp v).vp = v := rfl
@[simp] theorem State.setVp_sched (v : VpState) : (s.setVp v).sched = s.sched := rfl

/-! What `setSched` changes and what it leaves. -/

@[simp] theorem State.setSched_cpu (v : SchedState) : (s.setSched v).cpu = s.cpu := rfl
@[simp] theorem State.setSched_bus (v : SchedState) : (s.setSched v).bus = s.bus := rfl
@[simp] theorem State.setSched_vp (v : SchedState) : (s.setSched v).vp = s.vp := rfl
@[simp] theorem State.setSched_sched (v : SchedState) : (s.setSched v).sched = v := rfl

end Sys2Proof.Machine
end

