-- ==== Sys2Proof/Laws/Bus.lean ====
section
/-! SUPPORT. The two halves of a word, the address map, and what a Bus write can change. -/

namespace Sys2Proof

@[simp] theorem lo_toNat (w : Word) : (lo w).toNat = w.toNat % 256 := by
  simp [lo]

@[simp] theorem hi_toNat (w : Word) : (hi w).toNat = w.toNat / 256 := by
  have := w.isLt
  simp [hi, Nat.shiftRight_eq_div_pow]
  omega

@[simp] theorem w16_toNat (l h : Byte) : (w16 l h).toNat = h.toNat * 256 + l.toNat := by
  have := l.isLt
  have := h.isLt
  simp only [w16, BitVec.toNat_ofNat]
  omega

@[simp] theorem zext_toNat (b : Byte) : (zext b).toNat = b.toNat := by
  have := b.isLt
  simp only [zext, BitVec.toNat_setWidth]
  omega

@[simp] theorem w16_lo_hi (w : Word) : w16 (lo w) (hi w) = w := by
  apply BitVec.eq_of_toNat_eq
  simp only [w16_toNat, lo_toNat, hi_toNat]
  omega

@[simp] theorem lo_w16 (l h : Byte) : lo (w16 l h) = l := by
  have := l.isLt
  apply BitVec.eq_of_toNat_eq
  simp only [w16_toNat, lo_toNat]
  omega

@[simp] theorem hi_w16 (l h : Byte) : hi (w16 l h) = h := by
  have := l.isLt
  apply BitVec.eq_of_toNat_eq
  simp only [w16_toNat, hi_toNat]
  omega

namespace Machine

/-! What backs the addresses of a row. -/

@[simp] theorem Region.plus_ram (k j : Nat) : (Region.ram k).plus j = .ram (k + j) := rfl
@[simp] theorem Region.plus_vram (k j : Nat) : (Region.vram k).plus j = .vram (k + j) := rfl
@[simp] theorem Region.plus_rom (k j : Nat) : (Region.rom k).plus j = .rom (k + j) := rfl
@[simp] theorem Region.plus_in0 (k j : Nat) : (Region.in0 k).plus j = .in0 (k + j) := rfl
@[simp] theorem Region.plus_in1 (k j : Nat) : (Region.in1 k).plus j = .in1 (k + j) := rfl
@[simp] theorem Region.plus_dsw (k j : Nat) : (Region.dsw k).plus j = .dsw (k + j) := rfl
@[simp] theorem Region.plus_dmago (j : Nat) : Region.dmago.plus j = .dmago := rfl
@[simp] theorem Region.plus_latch (j : Nat) : Region.latch.plus j = .latch := rfl
@[simp] theorem Region.plus_watchdog (j : Nat) : Region.watchdog.plus j = .watchdog := rfl
@[simp] theorem Region.plus_sound (j : Nat) : Region.sound.plus j = .sound := rfl
@[simp] theorem Region.plus_unmapped (j : Nat) : Region.unmapped.plus j = .unmapped := rfl

/-- An address is of the class that its row of the map gives it, or of none (20_memory R101). -/
theorem MemoryMap.regionAt_cases (m : MemoryMap) (k : Nat) :
    (∃ r ∈ m.rows, r.first ≤ k ∧ k ≤ r.last ∧ m.regionAt k = r.region.plus (k - r.first)) ∨
    ((∀ r ∈ m.rows, k < r.first ∨ r.last < k) ∧ m.regionAt k = .unmapped) := by
  unfold MemoryMap.regionAt
  split
  · next r h =>
    have h' := List.find?_some h
    simp only [Bool.and_eq_true, decide_eq_true_eq] at h'
    exact .inl ⟨r, List.mem_of_find?_eq_some h, h'.1, h'.2, rfl⟩
  · next h =>
    refine .inr ⟨fun r hr => ?_, rfl⟩
    have := List.find?_eq_none.1 h r hr
    simp only [Bool.and_eq_true, decide_eq_true_eq] at this
    omega

/-- Two rows of an ordered map that hold one address are one row (20_memory R101). -/
theorem MemoryMap.row_unique {l : List MapRow} (ho : l.Pairwise (fun r q => r.last < q.first)) {r q : MapRow} (hr : r ∈ l)
    (hq : q ∈ l) {k : Nat} (h : r.first ≤ k ∧ k ≤ r.last) (h' : q.first ≤ k ∧ k ≤ q.last) : r = q := by
  induction l with
  | nil => exact absurd hr List.not_mem_nil
  | cons c t ih =>
    obtain ⟨hc, ht⟩ := List.pairwise_cons.1 ho
    rcases List.mem_cons.1 hr with hr | hr <;> rcases List.mem_cons.1 hq with hq | hq
    · rw [hr, hq]
    · have := hc q hq; subst hr; omega
    · have := hc r hr; subst hq; omega
    · exact ih ht hr hq

/-- An address inside a row of an ordered map has the class that the row gives it (20_memory R101). -/
theorem MemoryMap.regionAt_row {m : MemoryMap} (ho : m.rows.Pairwise (fun r q => r.last < q.first)) {k : Nat} {r : MapRow}
    (hr : r ∈ m.rows) (h1 : r.first ≤ k) (h2 : k ≤ r.last) : m.regionAt k = r.region.plus (k - r.first) := by
  rcases m.regionAt_cases k with ⟨q, hq, h3, h4, h5⟩ | ⟨h, -⟩
  · rw [h5, MemoryMap.row_unique ho hr hq ⟨h1, h2⟩ ⟨h3, h4⟩]
  · have := h r hr; omega

/-- The default map's rows are ordered and do not overlap (20_memory R101). -/
theorem defaultMemoryMap_ordered : defaultMemoryMap.rows.Pairwise (fun r q => r.last < q.first) := by decide

/-- An address inside a row of the default map has the class that the row gives it (20_memory R111). -/
theorem defaultMemoryMap_row {k : Nat} {r : MapRow} (hr : r ∈ defaultMemoryMap.rows) (h1 : r.first ≤ k) (h2 : k ≤ r.last) :
    defaultMemoryMap.regionAt k = r.region.plus (k - r.first) :=
  MemoryMap.regionAt_row defaultMemoryMap_ordered hr h1 h2

/-- An index of RAM that a well-formed map gives lies inside RAM (10_state R52). -/
theorem MemoryMap.WellFormed.ram_lt {m : MemoryMap} (hm : m.WellFormed) {k j : Nat} (h : m.regionAt k = .ram j) :
    j < m.ramSize := by
  rcases m.regionAt_cases k with ⟨r, hr, h1, h2, h3⟩ | ⟨-, h3⟩ <;> rw [h3] at h
  · obtain ⟨-, -, hi⟩ := hm.rows r hr
    rcases hg : r.region with b | b | b | b | b | b | _ | _ | _ | _ | _ <;> rw [hg] at h <;>
      simp only [Region.plus, reduceCtorEq, Region.ram.injEq] at h
    simp only [MapRow.inside, hg, decide_eq_true_eq] at hi
    omega
  · exact Region.noConfusion h

/-- An index of vector RAM that a well-formed map gives lies inside vector RAM (10_state R52). -/
theorem MemoryMap.WellFormed.vram_lt {m : MemoryMap} (hm : m.WellFormed) {k j : Nat} (h : m.regionAt k = .vram j) :
    j < m.vramSize := by
  rcases m.regionAt_cases k with ⟨r, hr, h1, h2, h3⟩ | ⟨-, h3⟩ <;> rw [h3] at h
  · obtain ⟨-, -, hi⟩ := hm.rows r hr
    rcases hg : r.region with b | b | b | b | b | b | _ | _ | _ | _ | _ <;> rw [hg] at h <;>
      simp only [Region.plus, reduceCtorEq, Region.vram.injEq] at h
    simp only [MapRow.inside, hg, decide_eq_true_eq] at hi
    omega
  · exact Region.noConfusion h

/-- The stack page of the default map is RAM (10_state R42, 20_memory R111). -/
theorem defaultMemoryMap_stackAddr (b : Byte) : defaultMemoryMap.classify (stackAddr b) = .ram (0x100 + b.toNat) := by
  revert b; decide

/-- The vectors of the default map are in the image (20_memory R112, R116). -/
theorem defaultMemoryMap_vector {k : Nat} (h : k < 6) :
    defaultMemoryMap.classify (BitVec.ofNat 16 (0xFFFA + k)) = .rom (0x1FFA + k) := by
  have hc : ∀ k < 6, defaultMemoryMap.classify (BitVec.ofNat 16 (0xFFFA + k)) = .rom (0x1FFA + k) := by decide
  exact hc k h

/-- The default map is well formed. -/
theorem defaultMemoryMap_wellFormed : defaultMemoryMap.WellFormed where
  ordered := defaultMemoryMap_ordered
  rows := by decide
  pages := .inr (by decide)
  stack p := ⟨_, defaultMemoryMap_stackAddr p⟩
  slots p q h := by
    rw [defaultMemoryMap_stackAddr, defaultMemoryMap_stackAddr, Region.ram.injEq] at h
    exact BitVec.eq_of_toNat_eq (by omega)
  vectors k h := ⟨_, defaultMemoryMap_vector h⟩
  vpSpace k h4 h6 := by
    rcases defaultMemoryMap.regionAt_cases k with ⟨r, hr, h1, h2, h3⟩ | ⟨-, h3⟩
    · rw [h3]
      simp only [defaultMemoryMap, List.mem_cons, List.not_mem_nil, or_false] at hr
      rcases hr with rfl | rfl | rfl | rfl | rfl | rfl | rfl | rfl | rfl | rfl | rfl | rfl | rfl | rfl | rfl | rfl <;>
        first
          | exact .inl ⟨_, rfl⟩
          | exact .inr (.inl ⟨_, rfl⟩)
          | (simp only at h1 h2; omega)
    · exact .inr (.inr h3)

/-- The machine after reset has the default map, which is well formed, and every store in canonical form. -/
theorem reset_memoryCanonical : State.reset.MemoryCanonical :=
  ⟨defaultMemoryMap_wellFormed, Memory.wf_empty 1024, Memory.wf_empty 2048, Memory.wf_empty 8192⟩

/-- The RAM page swap stays inside RAM that holds both swapped pages or neither (20_memory R113). -/
theorem ramIndex_lt (l : Byte) {k n : Nat} (hn : n ≤ 0x200 ∨ 0x400 ≤ n) (h : k < n) : ramIndex l k < n := by
  simp only [ramIndex]
  repeat' split
  all_goals omega

/-- The RAM page swap sends different offsets to different bytes (20_memory R113). -/
theorem ramIndex_inj (l : Byte) {j k : Nat} (h : ramIndex l j = ramIndex l k) : j = k := by
  simp only [ramIndex] at h
  repeat' split at h
  all_goals omega

/-! What a Bus access does, class by class (20_memory R102-R105, R114, R115). -/

section

variable {s : State} {a : Word} {k : Nat}

theorem State.read_at_ram (h : s.bus.map.classify a = .ram k) : s.read a = s.bus.ram.get (ramIndex s.bus.outLatch k) := by
  simp only [State.read, h]
theorem State.write_at_ram (h : s.bus.map.classify a = .ram k) (v : Byte) :
    s.write a v = s.setRam (s.bus.ram.set (ramIndex s.bus.outLatch k) v) := by
  simp only [State.write, h]
theorem State.read_at_vram (h : s.bus.map.classify a = .vram k) : s.read a = s.bus.vram.get k := by
  simp only [State.read, h]
theorem State.write_at_vram (h : s.bus.map.classify a = .vram k) (v : Byte) :
    s.write a v = s.setVram (s.bus.vram.set k v) := by
  simp only [State.write, h]
theorem State.read_at_rom (h : s.bus.map.classify a = .rom k) : s.read a = s.bus.rom.get k := by
  simp only [State.read, h]
theorem State.write_at_rom (h : s.bus.map.classify a = .rom k) (v : Byte) :
    s.write a v = s := by
  simp only [State.write, h]
theorem State.read_at_in0 (h : s.bus.map.classify a = .in0 k) : s.read a = lineByte (s.in0Line k) (mirror a) := by
  simp only [State.read, h]
theorem State.write_at_in0 (h : s.bus.map.classify a = .in0 k) (v : Byte) :
    s.write a v = s := by
  simp only [State.write, h]
theorem State.read_at_in1 (h : s.bus.map.classify a = .in1 k) : s.read a = lineByte (s.in1Line k) (mirror a) := by
  simp only [State.read, h]
theorem State.write_at_in1 (h : s.bus.map.classify a = .in1 k) (v : Byte) :
    s.write a v = s := by
  simp only [State.write, h]
theorem State.read_at_dsw (h : s.bus.map.classify a = .dsw k) : s.read a = dipByte s.bus.snapshot.dip k (mirror a) := by
  simp only [State.read, h]
theorem State.write_at_dsw (h : s.bus.map.classify a = .dsw k) (v : Byte) :
    s.write a v = s := by
  simp only [State.write, h]
theorem State.read_at_dmago (h : s.bus.map.classify a = .dmago) : s.read a = Config.openBus (mirror a) := by
  simp only [State.read, h]
theorem State.write_at_dmago (h : s.bus.map.classify a = .dmago) (v : Byte) :
    s.write a v = s.startVp := by
  simp only [State.write, h]
theorem State.read_at_latch (h : s.bus.map.classify a = .latch) : s.read a = Config.openBus (mirror a) := by
  simp only [State.read, h]
theorem State.write_at_latch (h : s.bus.map.classify a = .latch) (v : Byte) :
    s.write a v = s.setLatch v := by
  simp only [State.write, h]
theorem State.read_at_watchdog (h : s.bus.map.classify a = .watchdog) : s.read a = Config.openBus (mirror a) := by
  simp only [State.read, h]
theorem State.write_at_watchdog (h : s.bus.map.classify a = .watchdog) (v : Byte) :
    s.write a v = s := by
  simp only [State.write, h]
theorem State.read_at_sound (h : s.bus.map.classify a = .sound) : s.read a = Config.openBus (mirror a) := by
  simp only [State.read, h]
theorem State.write_at_sound (h : s.bus.map.classify a = .sound) (v : Byte) :
    s.write a v = s.setSound (s.bus.soundEvents ++ [⟨mirror a, v⟩]) := by
  simp only [State.write, h]
theorem State.read_at_unmapped (h : s.bus.map.classify a = .unmapped) : s.read a = Config.openBus (mirror a) := by
  simp only [State.read, h]
theorem State.write_at_unmapped (h : s.bus.map.classify a = .unmapped) (v : Byte) :
    s.write a v = s := by
  simp only [State.write, h]

end

/-- A Bus write does one of five things, by the class of its address, or nothing (20_memory R102-R105, R115). -/
theorem State.write_cases (s : State) (a : Word) (v : Byte) :
    (∃ k, s.bus.map.classify a = .ram k ∧ s.write a v = s.setRam (s.bus.ram.set (ramIndex s.bus.outLatch k) v)) ∨
    (∃ k, s.bus.map.classify a = .vram k ∧ s.write a v = s.setVram (s.bus.vram.set k v)) ∨
    (s.bus.map.classify a = .dmago ∧ s.write a v = s.startVp) ∨
    (s.bus.map.classify a = .latch ∧ s.write a v = s.setLatch v) ∨
    (s.bus.map.classify a = .sound ∧ s.write a v = s.setSound (s.bus.soundEvents ++ [⟨mirror a, v⟩])) ∨
    s.write a v = s := by
  simp only [State.write]
  split <;> simp_all

@[simp] theorem State.startVp_cpu (s : State) : s.startVp.cpu = s.cpu := rfl
@[simp] theorem State.startVp_bus (s : State) : s.startVp.bus = s.bus := rfl
@[simp] theorem State.startVp_sched (s : State) : s.startVp.sched = s.sched := rfl

/-- A Bus write changes no register of the CPU. -/
@[simp] theorem State.write_cpu (s : State) (a : Word) (v : Byte) : (s.write a v).cpu = s.cpu := by
  rcases s.write_cases a v with ⟨_, -, h⟩ | ⟨_, -, h⟩ | ⟨-, h⟩ | ⟨-, h⟩ | ⟨-, h⟩ | h <;> rw [h] <;> rfl

/-- A Bus write changes nothing of the Scheduler. -/
@[simp] theorem State.write_sched (s : State) (a : Word) (v : Byte) : (s.write a v).sched = s.sched := by
  rcases s.write_cases a v with ⟨_, -, h⟩ | ⟨_, -, h⟩ | ⟨-, h⟩ | ⟨-, h⟩ | ⟨-, h⟩ | h <;> rw [h] <;> rfl

/-- A Bus write never changes the ROM image (20_memory R103). -/
@[simp] theorem State.write_rom (s : State) (a : Word) (v : Byte) : (s.write a v).bus.rom = s.bus.rom := by
  rcases s.write_cases a v with ⟨_, -, h⟩ | ⟨_, -, h⟩ | ⟨-, h⟩ | ⟨-, h⟩ | ⟨-, h⟩ | h <;> rw [h] <;> rfl

/-- A Bus write never changes the memory map (20_memory R101). -/
@[simp] theorem State.write_map (s : State) (a : Word) (v : Byte) : (s.write a v).bus.map = s.bus.map := by
  rcases s.write_cases a v with ⟨_, -, h⟩ | ⟨_, -, h⟩ | ⟨-, h⟩ | ⟨-, h⟩ | ⟨-, h⟩ | h <;> rw [h] <;> rfl

/-- A Bus write never changes the input snapshot. -/
@[simp] theorem State.write_snapshot (s : State) (a : Word) (v : Byte) :
    (s.write a v).bus.snapshot = s.bus.snapshot := by
  rcases s.write_cases a v with ⟨_, -, h⟩ | ⟨_, -, h⟩ | ⟨-, h⟩ | ⟨-, h⟩ | ⟨-, h⟩ | h <;> rw [h] <;> rfl

/-- A Bus write touches the Vector Processor only by starting it (46_vector_processor R345). -/
theorem State.write_vp (s : State) (a : Word) (v : Byte) :
    (s.write a v).vp = s.vp ∨ (s.bus.map.classify a = .dmago ∧ (s.write a v).vp = s.startVp.vp) := by
  rcases s.write_cases a v with ⟨_, -, h⟩ | ⟨_, -, h⟩ | ⟨hc, h⟩ | ⟨-, h⟩ | ⟨-, h⟩ | h <;> rw [h] <;> first
    | exact .inl rfl
    | exact .inr ⟨hc, rfl⟩

/-- A Bus write keeps the canonical form of every store. -/
theorem State.write_memoryCanonical {s : State} (hs : s.MemoryCanonical) (a : Word) (v : Byte) :
    (s.write a v).MemoryCanonical := by
  obtain ⟨hm, h1, h2, h3⟩ := hs
  rcases s.write_cases a v with ⟨k, hc, h⟩ | ⟨k, hc, h⟩ | ⟨-, h⟩ | ⟨-, h⟩ | ⟨-, h⟩ | h <;> rw [h]
  · exact ⟨hm, Memory.wf_set h1 (ramIndex_lt _ hm.pages (hm.ram_lt hc)) v, h2, h3⟩
  · exact ⟨hm, h1, Memory.wf_set h2 (hm.vram_lt hc) v, h3⟩
  · exact ⟨hm, h1, h2, h3⟩
  · exact ⟨hm, h1, h2, h3⟩
  · exact ⟨hm, h1, h2, h3⟩
  · exact ⟨hm, h1, h2, h3⟩

/-- What a read depends on: the map, the stores, the latch and the snapshot, and for IN0 the cycle count and the VP's halted flag
(20_memory R102-R105, R114). -/
theorem State.read_congr {s t : State} (hm : s.bus.map = t.bus.map) (hb : s.bus.ram = t.bus.ram)
    (hv : s.bus.vram = t.bus.vram)
    (hr : s.bus.rom = t.bus.rom) (hl : s.bus.outLatch = t.bus.outLatch) (hi : s.bus.snapshot = t.bus.snapshot)
    (hc : s.cpu.cycleCount = t.cpu.cycleCount) (hh : s.vp.halted = t.vp.halted) (a : Word) : s.read a = t.read a := by
  simp only [State.read, State.in0Line, State.in1Line, hm, hb, hv, hr, hl, hi, hc, hh]

end Machine

end Sys2Proof
end

