-- ==== Sys2Proof/Laws/Decode.lean ====
section
/-! SUPPORT. What the decoders answer: which instruction set the answer is of, and when the CPU's decoder rejects. -/

namespace Sys2Proof

/-- A cell of the opcode map waits for operand bytes only to give a CPU instruction. -/
def Form.ofCpu : Option Form → Prop
  | none => True
  | some (.f1 i) => i.isa = .cpu
  | some (.f2 mk) => ∀ b, (mk b).isa = .cpu
  | some (.f3 mk) => ∀ w, (mk w).isa = .cpu

theorem forall_mem_nil {α : Type} {p : α → Prop} : ∀ x ∈ ([] : List α), p x := fun _ h => absurd h List.not_mem_nil

theorem forall_mem_cons {α : Type} {p : α → Prop} {a : α} {l : List α} (h : p a) (hl : ∀ x ∈ l, p x) :
    ∀ x ∈ a :: l, p x := List.forall_mem_cons.2 ⟨h, hl⟩

theorem opcodeMap_ofCpu : ∀ row ∈ opcodeMap, ∀ f ∈ row, Form.ofCpu f := by
  show ∀ row ∈ [opcodeRow0, opcodeRow1, opcodeRow2, opcodeRow3, opcodeRow4, opcodeRow5, opcodeRow6, opcodeRow7,
    opcodeRow8, opcodeRow9, opcodeRowA, opcodeRowB, opcodeRowC, opcodeRowD, opcodeRowE, opcodeRowF], _
  repeat' refine forall_mem_cons ?_ ?_
  all_goals first
    | exact forall_mem_nil
    | exact trivial
    | exact rfl
    | exact fun _ => rfl

/-- What holds of every cell of the opcode map and of an empty cell holds at every opcode. -/
theorem opcodeForm_of_map {p : Option Form → Prop} (h0 : p none) (h : ∀ row ∈ opcodeMap, ∀ f ∈ row, p f) (op : Byte) :
    p (opcodeForm op) := by
  have hk : ∀ k, ∀ f ∈ opcodeMap.getD k [], p f := fun k f hf => by
    rw [List.getD_eq_getElem?_getD] at hf
    rcases he : opcodeMap[k]? with _ | row
    · simp [he] at hf
    · rw [he] at hf
      exact h row (List.mem_of_getElem? he) f hf
  rw [opcodeForm, List.getD_eq_getElem?_getD]
  rcases he : (opcodeMap.getD (op.toNat / 16) [])[op.toNat % 16]? with _ | f
  · exact h0
  · exact hk _ f (List.mem_of_getElem? he)

theorem opcodeForm_ofCpu (op : Byte) : Form.ofCpu (opcodeForm op) := opcodeForm_of_map trivial opcodeMap_ofCpu op

/-- The CPU's decoder gives CPU instructions only. -/
theorem decodeCpu_isa {bs rest : List Byte} {i : Instr} (h : decodeCpu bs = .ok (i, rest)) : i.isa = .cpu := by
  rcases bs with _ | ⟨op, bs⟩
  · simp [decodeCpu] at h
  · have hf := opcodeForm_ofCpu op
    rcases ho : opcodeForm op with _ | ⟨j⟩ | ⟨mk⟩ | ⟨mk⟩ <;> rw [ho] at hf <;> simp only [decodeCpu, ho] at h
    · exact absurd h (by simp)
    · simp only [Except.ok.injEq, Prod.mk.injEq] at h
      exact h.1 ▸ hf
    · rcases bs with _ | ⟨b1, bs⟩ <;> simp at h
      exact h.1 ▸ hf b1
    · rcases bs with _ | ⟨b1, _ | ⟨b2, bs⟩⟩ <;> simp at h
      exact h.1 ▸ hf (w16 b1 b2)

/-- On three bytes the CPU's decoder rejects exactly an opcode that the map leaves empty. -/
theorem decodeCpu_three (op b1 b2 : Byte) :
    (opcodeForm op = none ∧ decodeCpu [op, b1, b2] = .error (.illegalOpcode op)) ∨
    (opcodeForm op ≠ none ∧ ∃ i rest, decodeCpu [op, b1, b2] = .ok (i, rest)) := by
  rcases ho : opcodeForm op with _ | ⟨j⟩ | ⟨mk⟩ | ⟨mk⟩ <;> simp [decodeCpu, ho]

/-- The Vector Processor's decoder gives Vector Processor instructions only. -/
theorem decodeVpWords_isa (w0 w1 : Word) : (decodeVpWords w0 w1).isa = .vp := by
  unfold decodeVpWords
  split <;> rfl

end Sys2Proof
end

