-- ==== Sys2Proof/Laws/Ops.lean ====
section
/-! SUPPORT. What each shared operation can do, said once: the stack, the entry of an interrupt or BRK, the return from
one, and the shapes of the meanings. -/

namespace Sys2Proof.Machine

/-- A push is one Bus write at its slot of page 1, and decrements S (00_scope R10). -/
@[simp] theorem State.push_bus (s : State) (v : Byte) : (s.push v).bus = (s.write (stackAddr s.cpu.s) v).bus := rfl
@[simp] theorem State.push_vp (s : State) (v : Byte) : (s.push v).vp = (s.write (stackAddr s.cpu.s) v).vp := rfl
@[simp] theorem State.push_cpu (s : State) (v : Byte) : (s.push v).cpu = { s.cpu with s := s.cpu.s - 1 } := by
  simp only [State.push, State.setS, State.write_cpu]
@[simp] theorem State.push_sched (s : State) (v : Byte) : (s.push v).sched = s.sched := s.write_sched _ _

/-- Where the stack page is RAM, a push writes one byte of RAM and decrements S (10_state R42, 20_memory R116). -/
theorem State.push_eq {s : State} (h : s.bus.map.WellFormed) (v : Byte) :
    ∃ k, s.bus.map.classify (stackAddr s.cpu.s) = .ram k ∧
      s.push v = (s.setRam (s.bus.ram.set (ramIndex s.bus.outLatch k) v)).setS (s.cpu.s - 1) := by
  obtain ⟨k, hk⟩ := h.stack s.cpu.s
  exact ⟨k, hk, by simp only [State.push, State.write, hk]⟩

/-- A push of a word pushes its high byte, then its low byte (20_memory R108). -/
theorem State.pushWord_cpu (s : State) (w : Word) : (s.pushWord w).cpu = { s.cpu with s := s.cpu.s - 1 - 1 } := by
  simp only [State.pushWord, State.push_cpu]

@[simp] theorem State.pushWord_sched (s : State) (w : Word) : (s.pushWord w).sched = s.sched := by simp [State.pushWord]

theorem State.push_memoryCanonical {s : State} (hs : s.MemoryCanonical) (v : Byte) : (s.push v).MemoryCanonical :=
  State.write_memoryCanonical hs _ _

/-- Taking an exception changes, besides what its three pushes write, S, I and the program counter, and nothing else
(60_exceptions R413). -/
theorem State.enterVector_frame (s : State) (ret : Word) (brk : Bool) (vec : Word) :
    (s.enterVector ret brk vec).vp = ((s.pushWord ret).push (s.cpu.p.pack brk)).vp ∧
    (s.enterVector ret brk vec).bus = ((s.pushWord ret).push (s.cpu.p.pack brk)).bus ∧
    (s.enterVector ret brk vec).sched = s.sched ∧
    ∃ pc, (s.enterVector ret brk vec).cpu =
      { s.cpu with s := s.cpu.s - 1 - 1 - 1, p := { s.cpu.p with i := true }, pc := pc } := by
  refine ⟨rfl, rfl, by simp [State.enterVector], ((s.pushWord ret).push (s.cpu.p.pack brk)).read16 vec, ?_⟩
  simp only [State.enterVector, State.setPC, State.setP, State.pushWord, State.push_cpu]

theorem State.enterVector_memoryCanonical {s : State} (hs : s.MemoryCanonical) (ret : Word) (brk : Bool) (vec : Word) :
    (s.enterVector ret brk vec).MemoryCanonical :=
  State.push_memoryCanonical (State.push_memoryCanonical (State.push_memoryCanonical hs _) _) _

/-- A return from an interrupt reads three bytes of page 1 and changes S, the flags and the program counter only
(43_branch_jump R283). -/
theorem State.returnFromInterrupt_eq (s : State) :
    s.returnFromInterrupt = { s with cpu := { s.cpu with
      s := s.cpu.s + 1 + 1 + 1, p := Flags.unpack (s.read (stackAddr (s.cpu.s + 1))),
      pc := w16 (s.read (stackAddr (s.cpu.s + 1 + 1))) (s.read (stackAddr (s.cpu.s + 1 + 1 + 1))) } } := rfl

/-- An instruction that reads its operand: what it leaves is what its own function leaves, retired. -/
theorem readOp_next {f : Byte → State → State} {c : Nat} {o : Operand} {s t : State} (h : readOp f c o s = .next t) :
    t = (f (s.operand o) s).retire o.length (c + s.readPenalty o) := by
  cases h; rfl

/-- A store: one Bus write, retired. -/
theorem storeOp_next {v : Byte} {c : Nat} {m : MemMode} {s t : State} (h : storeOp v c m s = .next t) :
    t = (s.write (s.effAddr m) v).retire m.length c := by
  cases h; rfl

/-- A read-modify-write: one read and one write at one address, the flags, retired. -/
theorem modifyMem_next {f : Flags → Byte → Byte × Flags} {c : Nat} {m : MemMode} {s t : State}
    (h : modifyMem f c m s = .next t) :
    t = ((s.write (s.effAddr m) (f s.cpu.p (s.read (s.effAddr m))).1).setP
          (f s.cpu.p (s.read (s.effAddr m))).2).retire m.length c := by
  cases h; rfl

/-- A shift of the accumulator: A and the flags, retired. -/
theorem modifyAcc_next {f : Flags → Byte → Byte × Flags} {c : Nat} {s t : State} (h : modifyAcc f c s = .next t) :
    t = ((s.setA (f s.cpu.p s.cpu.a).1).setP (f s.cpu.p s.cpu.a).2).retire 1 c := by
  cases h; rfl

/-- An implied-mode instruction: its own function, retired. -/
theorem impliedOp_next {g : State → State} {c : Nat} {s t : State} (h : impliedOp g c s = .next t) :
    t = (g s).retire 1 c := by
  cases h; rfl

/-- A branch changes the program counter and the returned cycles only (43_branch_jump R270). -/
theorem branchOp_next {b : Bool} {c : Nat} {off : Byte} {s t : State} (h : branchOp b c off s = .next t) :
    ∃ pc n, t = (s.setPC pc).setCycles n := by
  cases b <;> cases h <;> exact ⟨_, _, rfl⟩

@[simp] theorem State.retire_bus (s : State) (l c : Nat) : (s.retire l c).bus = s.bus := rfl
@[simp] theorem State.retire_vp (s : State) (l c : Nat) : (s.retire l c).vp = s.vp := rfl
@[simp] theorem State.retire_sched (s : State) (l c : Nat) : (s.retire l c).sched = s.sched := rfl
@[simp] theorem State.retire_cpu (s : State) (l c : Nat) :
    (s.retire l c).cpu = { s.cpu with pc := s.cpu.pc + BitVec.ofNat 16 l, cycles := c } := rfl

@[simp] theorem State.setNZ_bus (s : State) (v : Byte) : (s.setNZ v).bus = s.bus := rfl
@[simp] theorem State.setNZ_vp (s : State) (v : Byte) : (s.setNZ v).vp = s.vp := rfl
@[simp] theorem State.setNZ_sched (s : State) (v : Byte) : (s.setNZ v).sched = s.sched := rfl
@[simp] theorem State.setNZ_cpu (s : State) (v : Byte) : (s.setNZ v).cpu = { s.cpu with p := s.cpu.p.setNZ v } := rfl

/-- Moving the beam changes `vx`, `vy` and the segment list only (46_vector_processor R325). -/
@[simp] theorem State.moveBeam_cpu (s : State) (x y : Int) (z : BitVec 4) : (s.moveBeam x y z).cpu = s.cpu := rfl
@[simp] theorem State.moveBeam_bus (s : State) (x y : Int) (z : BitVec 4) : (s.moveBeam x y z).bus = s.bus := rfl
@[simp] theorem State.moveBeam_vp (s : State) (x y : Int) (z : BitVec 4) :
    (s.moveBeam x y z).vp = { s.vp with vx := Config.vpCoordPolicy x, vy := Config.vpCoordPolicy y } := rfl
@[simp] theorem State.moveBeam_sched (s : State) (x y : Int) (z : BitVec 4) :
    (s.moveBeam x y z).sched = { s.sched with segments := s.sched.segments ++
      [⟨s.vp.vx, s.vp.vy, Config.vpCoordPolicy x, Config.vpCoordPolicy y, z⟩] } := rfl
@[simp] theorem State.advanceVpc_cpu (s : State) (n : Nat) : (s.advanceVpc n).cpu = s.cpu := rfl
@[simp] theorem State.advanceVpc_bus (s : State) (n : Nat) : (s.advanceVpc n).bus = s.bus := rfl
@[simp] theorem State.advanceVpc_sched (s : State) (n : Nat) : (s.advanceVpc n).sched = s.sched := rfl
@[simp] theorem State.advanceVpc_vp (s : State) (n : Nat) :
    (s.advanceVpc n).vp = { s.vp with vpc := s.vp.vpc + BitVec.ofNat 12 n } := rfl

end Sys2Proof.Machine
end

