-- ==== Sys2Proof/Laws/Exec.lean ====
section
/-! SUPPORT. One lemma per mnemonic: whatever its addressing mode, the meaning is the shared operation on that mode. The
provers cite these instead of splitting exec's 167 arms. -/

namespace Sys2Proof.Machine

variable {i : Instr} (s : State)

theorem exec_adc {o : Operand} (h : i.view = .cpu .adc (.src o)) :
    exec i s = readOp adcStep (readCycles o) o s := by
  cases i <;> cases h <;> rfl

theorem exec_sbc {o : Operand} (h : i.view = .cpu .sbc (.src o)) :
    exec i s = readOp sbcStep (readCycles o) o s := by
  cases i <;> cases h <;> rfl

theorem exec_cmp {o : Operand} (h : i.view = .cpu .cmp (.src o)) :
    exec i s = readOp cmpStep (readCycles o) o s := by
  cases i <;> cases h <;> rfl

theorem exec_cpx {o : Operand} (h : i.view = .cpu .cpx (.src o)) :
    exec i s = readOp cpxStep (readCycles o) o s := by
  cases i <;> cases h <;> rfl

theorem exec_cpy {o : Operand} (h : i.view = .cpu .cpy (.src o)) :
    exec i s = readOp cpyStep (readCycles o) o s := by
  cases i <;> cases h <;> rfl

theorem exec_inc_mem {m : MemMode} (h : i.view = .cpu .inc (.src (.mem m))) :
    ∃ c, modifyCycles m = some c ∧ exec i s = modifyMem incResult c m s := by
  cases i <;> cases h <;> exact ⟨_, rfl, rfl⟩

theorem exec_dec_mem {m : MemMode} (h : i.view = .cpu .dec (.src (.mem m))) :
    ∃ c, modifyCycles m = some c ∧ exec i s = modifyMem decResult c m s := by
  cases i <;> cases h <;> exact ⟨_, rfl, rfl⟩

theorem exec_inx (h : i.view = .cpu .inx .imp) : exec i s = impliedOp inxStep 2 s := by
  cases i <;> cases h
  rfl

theorem exec_iny (h : i.view = .cpu .iny .imp) : exec i s = impliedOp inyStep 2 s := by
  cases i <;> cases h
  rfl

theorem exec_dex (h : i.view = .cpu .dex .imp) : exec i s = impliedOp dexStep 2 s := by
  cases i <;> cases h
  rfl

theorem exec_dey (h : i.view = .cpu .dey .imp) : exec i s = impliedOp deyStep 2 s := by
  cases i <;> cases h
  rfl

theorem exec_and {o : Operand} (h : i.view = .cpu .and (.src o)) :
    exec i s = readOp andStep (readCycles o) o s := by
  cases i <;> cases h <;> rfl

theorem exec_ora {o : Operand} (h : i.view = .cpu .ora (.src o)) :
    exec i s = readOp oraStep (readCycles o) o s := by
  cases i <;> cases h <;> rfl

theorem exec_eor {o : Operand} (h : i.view = .cpu .eor (.src o)) :
    exec i s = readOp eorStep (readCycles o) o s := by
  cases i <;> cases h <;> rfl

theorem exec_bit {o : Operand} (h : i.view = .cpu .bit (.src o)) :
    exec i s = readOp bitStep (readCycles o) o s := by
  cases i <;> cases h <;> rfl

theorem exec_asl_mem {m : MemMode} (h : i.view = .cpu .asl (.src (.mem m))) :
    ∃ c, modifyCycles m = some c ∧ exec i s = modifyMem aslResult c m s := by
  cases i <;> cases h <;> exact ⟨_, rfl, rfl⟩

theorem exec_asl_acc (h : i.view = .cpu .asl .acc) : exec i s = modifyAcc aslResult 2 s := by
  cases i <;> cases h
  rfl

theorem exec_lsr_mem {m : MemMode} (h : i.view = .cpu .lsr (.src (.mem m))) :
    ∃ c, modifyCycles m = some c ∧ exec i s = modifyMem lsrResult c m s := by
  cases i <;> cases h <;> exact ⟨_, rfl, rfl⟩

theorem exec_lsr_acc (h : i.view = .cpu .lsr .acc) : exec i s = modifyAcc lsrResult 2 s := by
  cases i <;> cases h
  rfl

theorem exec_rol_mem {m : MemMode} (h : i.view = .cpu .rol (.src (.mem m))) :
    ∃ c, modifyCycles m = some c ∧ exec i s = modifyMem rolResult c m s := by
  cases i <;> cases h <;> exact ⟨_, rfl, rfl⟩

theorem exec_rol_acc (h : i.view = .cpu .rol .acc) : exec i s = modifyAcc rolResult 2 s := by
  cases i <;> cases h
  rfl

theorem exec_ror_mem {m : MemMode} (h : i.view = .cpu .ror (.src (.mem m))) :
    ∃ c, modifyCycles m = some c ∧ exec i s = modifyMem rorResult c m s := by
  cases i <;> cases h <;> exact ⟨_, rfl, rfl⟩

theorem exec_ror_acc (h : i.view = .cpu .ror .acc) : exec i s = modifyAcc rorResult 2 s := by
  cases i <;> cases h
  rfl

theorem exec_lda {o : Operand} (h : i.view = .cpu .lda (.src o)) :
    exec i s = readOp ldaStep (readCycles o) o s := by
  cases i <;> cases h <;> rfl

theorem exec_ldx {o : Operand} (h : i.view = .cpu .ldx (.src o)) :
    exec i s = readOp ldxStep (readCycles o) o s := by
  cases i <;> cases h <;> rfl

theorem exec_ldy {o : Operand} (h : i.view = .cpu .ldy (.src o)) :
    exec i s = readOp ldyStep (readCycles o) o s := by
  cases i <;> cases h <;> rfl

theorem exec_sta {m : MemMode} (h : i.view = .cpu .sta (.src (.mem m))) :
    exec i s = storeOp s.cpu.a (storeCycles m) m s := by
  cases i <;> cases h <;> rfl

theorem exec_stx {m : MemMode} (h : i.view = .cpu .stx (.src (.mem m))) :
    exec i s = storeOp s.cpu.x (storeCycles m) m s := by
  cases i <;> cases h <;> rfl

theorem exec_sty {m : MemMode} (h : i.view = .cpu .sty (.src (.mem m))) :
    exec i s = storeOp s.cpu.y (storeCycles m) m s := by
  cases i <;> cases h <;> rfl

theorem exec_tax (h : i.view = .cpu .tax .imp) : exec i s = impliedOp taxStep 2 s := by
  cases i <;> cases h
  rfl

theorem exec_tay (h : i.view = .cpu .tay .imp) : exec i s = impliedOp tayStep 2 s := by
  cases i <;> cases h
  rfl

theorem exec_txa (h : i.view = .cpu .txa .imp) : exec i s = impliedOp txaStep 2 s := by
  cases i <;> cases h
  rfl

theorem exec_tya (h : i.view = .cpu .tya .imp) : exec i s = impliedOp tyaStep 2 s := by
  cases i <;> cases h
  rfl

theorem exec_tsx (h : i.view = .cpu .tsx .imp) : exec i s = impliedOp tsxStep 2 s := by
  cases i <;> cases h
  rfl

theorem exec_txs (h : i.view = .cpu .txs .imp) : exec i s = impliedOp txsStep 2 s := by
  cases i <;> cases h
  rfl

theorem exec_bcc {off : Byte} (h : i.view = .cpu .bcc (.rel off)) :
    exec i s = branchOp (!s.cpu.p.c) 2 off s := by
  cases i <;> cases h
  rfl

theorem exec_bcs {off : Byte} (h : i.view = .cpu .bcs (.rel off)) :
    exec i s = branchOp s.cpu.p.c 2 off s := by
  cases i <;> cases h
  rfl

theorem exec_beq {off : Byte} (h : i.view = .cpu .beq (.rel off)) :
    exec i s = branchOp s.cpu.p.z 2 off s := by
  cases i <;> cases h
  rfl

theorem exec_bmi {off : Byte} (h : i.view = .cpu .bmi (.rel off)) :
    exec i s = branchOp s.cpu.p.n 2 off s := by
  cases i <;> cases h
  rfl

theorem exec_bne {off : Byte} (h : i.view = .cpu .bne (.rel off)) :
    exec i s = branchOp (!s.cpu.p.z) 2 off s := by
  cases i <;> cases h
  rfl

theorem exec_bpl {off : Byte} (h : i.view = .cpu .bpl (.rel off)) :
    exec i s = branchOp (!s.cpu.p.n) 2 off s := by
  cases i <;> cases h
  rfl

theorem exec_bvc {off : Byte} (h : i.view = .cpu .bvc (.rel off)) :
    exec i s = branchOp (!s.cpu.p.v) 2 off s := by
  cases i <;> cases h
  rfl

theorem exec_bvs {off : Byte} (h : i.view = .cpu .bvs (.rel off)) :
    exec i s = branchOp s.cpu.p.v 2 off s := by
  cases i <;> cases h
  rfl

theorem exec_pha (h : i.view = .cpu .pha .imp) : exec i s = impliedOp phaStep 3 s := by
  cases i <;> cases h
  rfl

theorem exec_php (h : i.view = .cpu .php .imp) : exec i s = impliedOp phpStep 3 s := by
  cases i <;> cases h
  rfl

theorem exec_pla (h : i.view = .cpu .pla .imp) : exec i s = impliedOp plaStep 4 s := by
  cases i <;> cases h
  rfl

theorem exec_plp (h : i.view = .cpu .plp .imp) : exec i s = impliedOp plpStep 4 s := by
  cases i <;> cases h
  rfl

theorem exec_clc (h : i.view = .cpu .clc .imp) : exec i s = impliedOp clcStep 2 s := by
  cases i <;> cases h
  rfl

theorem exec_sec (h : i.view = .cpu .sec .imp) : exec i s = impliedOp secStep 2 s := by
  cases i <;> cases h
  rfl

theorem exec_cli (h : i.view = .cpu .cli .imp) : exec i s = impliedOp cliStep 2 s := by
  cases i <;> cases h
  rfl

theorem exec_sei (h : i.view = .cpu .sei .imp) : exec i s = impliedOp seiStep 2 s := by
  cases i <;> cases h
  rfl

theorem exec_cld (h : i.view = .cpu .cld .imp) : exec i s = impliedOp cldStep 2 s := by
  cases i <;> cases h
  rfl

theorem exec_sed (h : i.view = .cpu .sed .imp) : exec i s = impliedOp sedStep 2 s := by
  cases i <;> cases h
  rfl

theorem exec_clv (h : i.view = .cpu .clv .imp) : exec i s = impliedOp clvStep 2 s := by
  cases i <;> cases h
  rfl

/-- A Vector Processor operation in the ten VCTR rows (46_vector_processor R324). -/
theorem exec_vctr {ls : BitVec 4} {f : VctrFields} (h : i.view = .vp (.vctr ls f)) :
    exec i s = .next (vctrStep ls f s) := by
  cases i <;> cases h <;> rfl

end Sys2Proof.Machine
end

