-- ==== Sys2Proof/Laws/Frame.lean ====
section
/-! SUPPORT. What any instruction of either agent leaves alone, said once over all 167 arms of exec. -/

namespace Sys2Proof.Machine

/-- What the Bus accesses and register updates of a CPU step leave alone. -/
structure CpuKeeps (s t : State) : Prop where
  sched : t.sched = s.sched
  map : t.bus.map = s.bus.map
  rom : t.bus.rom = s.bus.rom
  snapshot : t.bus.snapshot = s.bus.snapshot
  irqPending : t.cpu.irqPending = s.cpu.irqPending
  nmiPending : t.cpu.nmiPending = s.cpu.nmiPending
  cycleCount : t.cpu.cycleCount = s.cpu.cycleCount
  fault : t.cpu.fault = s.cpu.fault
  vp : t.vp = s.vp ∨ t.vp = s.startVp.vp
  memory : s.MemoryCanonical → t.MemoryCanonical
  sound : s.bus.soundEvents <+: t.bus.soundEvents

/-- What a CPU instruction leaves alone, and the bounds of the cycles it returns. -/
structure CpuFrame (s t : State) : Prop extends CpuKeeps s t where
  least : 2 ≤ t.cpu.cycles
  most : t.cpu.cycles ≤ 7

/-- What a Vector Processor instruction leaves alone. -/
structure VpFrame (s t : State) : Prop where
  bus : t.bus = s.bus
  cpu : t.cpu = { s.cpu with irqPending := t.cpu.irqPending }
  sched : t.sched = { s.sched with segments := t.sched.segments }
  segments : s.sched.segments <+: t.sched.segments

/-- A function of the state that changes the registers a program names, and nothing else. -/
def RegisterOnly (s t : State) : Prop :=
  t = { s with cpu := { s.cpu with a := t.cpu.a, x := t.cpu.x, y := t.cpu.y, s := t.cpu.s, p := t.cpu.p } }

/-- The shapes of a CPU instruction's outcome at `s`. -/
inductive CpuShape (s : State) : Host.Outcome State Fault Refusal → Prop where
  | read (f : Byte → State → State) (o : Operand) (hf : ∀ m u, RegisterOnly u (f m u)) :
      CpuShape s (readOp f (readCycles o) o s)
  | store (v : Byte) (m : MemMode) : CpuShape s (storeOp v (storeCycles m) m s)
  | modify (f : Flags → Byte → Byte × Flags) (c : Nat) (m : MemMode) (hc : modifyCycles m = some c) :
      CpuShape s (modifyMem f c m s)
  | shift (f : Flags → Byte → Byte × Flags) : CpuShape s (modifyAcc f 2 s)
  | register (g : State → State) (c : Nat) (hg : ∀ u, RegisterOnly u (g u)) (h2 : 2 ≤ c) (h4 : c ≤ 4) :
      CpuShape s (impliedOp g c s)
  | branch (b : Bool) (off : Byte) : CpuShape s (branchOp b 2 off s)
  | push (v : Byte) : CpuShape s (.next ((s.push v).retire 1 3))
  | jump (w : Word) (c : Nat) (h2 : 2 ≤ c) (h5 : c ≤ 5) : CpuShape s (.next ((s.setPC w).setCycles c))
  | jsr (w : Word) : CpuShape s (execJsr w s)
  | rts : CpuShape s (execRts s)
  | brk : CpuShape s (execBrk s)
  | rti : CpuShape s (execRti s)


/-- Every CPU instruction has one of the shapes. -/
theorem exec_shape {i : Instr} (hi : i.isa = .cpu) (s : State) : CpuShape s (exec i s) := by
  cases i with
  | adcImm v => exact .read adcStep (.imm v) (fun _ _ => rfl)
  | adcZp a => exact .read adcStep (.mem (.zp a)) (fun _ _ => rfl)
  | adcZpX a => exact .read adcStep (.mem (.zpx a)) (fun _ _ => rfl)
  | adcAbs w => exact .read adcStep (.mem (.abs w)) (fun _ _ => rfl)
  | adcAbsX w => exact .read adcStep (.mem (.absx w)) (fun _ _ => rfl)
  | adcAbsY w => exact .read adcStep (.mem (.absy w)) (fun _ _ => rfl)
  | adcIndX a => exact .read adcStep (.mem (.indx a)) (fun _ _ => rfl)
  | adcIndY a => exact .read adcStep (.mem (.indy a)) (fun _ _ => rfl)
  | sbcImm v => exact .read sbcStep (.imm v) (fun _ _ => rfl)
  | sbcZp a => exact .read sbcStep (.mem (.zp a)) (fun _ _ => rfl)
  | sbcZpX a => exact .read sbcStep (.mem (.zpx a)) (fun _ _ => rfl)
  | sbcAbs w => exact .read sbcStep (.mem (.abs w)) (fun _ _ => rfl)
  | sbcAbsX w => exact .read sbcStep (.mem (.absx w)) (fun _ _ => rfl)
  | sbcAbsY w => exact .read sbcStep (.mem (.absy w)) (fun _ _ => rfl)
  | sbcIndX a => exact .read sbcStep (.mem (.indx a)) (fun _ _ => rfl)
  | sbcIndY a => exact .read sbcStep (.mem (.indy a)) (fun _ _ => rfl)
  | cmpImm v => exact .read cmpStep (.imm v) (fun _ _ => rfl)
  | cmpZp a => exact .read cmpStep (.mem (.zp a)) (fun _ _ => rfl)
  | cmpZpX a => exact .read cmpStep (.mem (.zpx a)) (fun _ _ => rfl)
  | cmpAbs w => exact .read cmpStep (.mem (.abs w)) (fun _ _ => rfl)
  | cmpAbsX w => exact .read cmpStep (.mem (.absx w)) (fun _ _ => rfl)
  | cmpAbsY w => exact .read cmpStep (.mem (.absy w)) (fun _ _ => rfl)
  | cmpIndX a => exact .read cmpStep (.mem (.indx a)) (fun _ _ => rfl)
  | cmpIndY a => exact .read cmpStep (.mem (.indy a)) (fun _ _ => rfl)
  | cpxImm v => exact .read cpxStep (.imm v) (fun _ _ => rfl)
  | cpxZp a => exact .read cpxStep (.mem (.zp a)) (fun _ _ => rfl)
  | cpxAbs w => exact .read cpxStep (.mem (.abs w)) (fun _ _ => rfl)
  | cpyImm v => exact .read cpyStep (.imm v) (fun _ _ => rfl)
  | cpyZp a => exact .read cpyStep (.mem (.zp a)) (fun _ _ => rfl)
  | cpyAbs w => exact .read cpyStep (.mem (.abs w)) (fun _ _ => rfl)
  | incZp a => exact .modify incResult 5 (.zp a) rfl
  | incZpX a => exact .modify incResult 6 (.zpx a) rfl
  | incAbs w => exact .modify incResult 6 (.abs w) rfl
  | incAbsX w => exact .modify incResult 7 (.absx w) rfl
  | decZp a => exact .modify decResult 5 (.zp a) rfl
  | decZpX a => exact .modify decResult 6 (.zpx a) rfl
  | decAbs w => exact .modify decResult 6 (.abs w) rfl
  | decAbsX w => exact .modify decResult 7 (.absx w) rfl
  | inx => exact .register inxStep 2 (fun _ => rfl) (by decide) (by decide)
  | iny => exact .register inyStep 2 (fun _ => rfl) (by decide) (by decide)
  | dex => exact .register dexStep 2 (fun _ => rfl) (by decide) (by decide)
  | dey => exact .register deyStep 2 (fun _ => rfl) (by decide) (by decide)
  | andImm v => exact .read andStep (.imm v) (fun _ _ => rfl)
  | andZp a => exact .read andStep (.mem (.zp a)) (fun _ _ => rfl)
  | andZpX a => exact .read andStep (.mem (.zpx a)) (fun _ _ => rfl)
  | andAbs w => exact .read andStep (.mem (.abs w)) (fun _ _ => rfl)
  | andAbsX w => exact .read andStep (.mem (.absx w)) (fun _ _ => rfl)
  | andAbsY w => exact .read andStep (.mem (.absy w)) (fun _ _ => rfl)
  | andIndX a => exact .read andStep (.mem (.indx a)) (fun _ _ => rfl)
  | andIndY a => exact .read andStep (.mem (.indy a)) (fun _ _ => rfl)
  | oraImm v => exact .read oraStep (.imm v) (fun _ _ => rfl)
  | oraZp a => exact .read oraStep (.mem (.zp a)) (fun _ _ => rfl)
  | oraZpX a => exact .read oraStep (.mem (.zpx a)) (fun _ _ => rfl)
  | oraAbs w => exact .read oraStep (.mem (.abs w)) (fun _ _ => rfl)
  | oraAbsX w => exact .read oraStep (.mem (.absx w)) (fun _ _ => rfl)
  | oraAbsY w => exact .read oraStep (.mem (.absy w)) (fun _ _ => rfl)
  | oraIndX a => exact .read oraStep (.mem (.indx a)) (fun _ _ => rfl)
  | oraIndY a => exact .read oraStep (.mem (.indy a)) (fun _ _ => rfl)
  | eorImm v => exact .read eorStep (.imm v) (fun _ _ => rfl)
  | eorZp a => exact .read eorStep (.mem (.zp a)) (fun _ _ => rfl)
  | eorZpX a => exact .read eorStep (.mem (.zpx a)) (fun _ _ => rfl)
  | eorAbs w => exact .read eorStep (.mem (.abs w)) (fun _ _ => rfl)
  | eorAbsX w => exact .read eorStep (.mem (.absx w)) (fun _ _ => rfl)
  | eorAbsY w => exact .read eorStep (.mem (.absy w)) (fun _ _ => rfl)
  | eorIndX a => exact .read eorStep (.mem (.indx a)) (fun _ _ => rfl)
  | eorIndY a => exact .read eorStep (.mem (.indy a)) (fun _ _ => rfl)
  | bitZp a => exact .read bitStep (.mem (.zp a)) (fun _ _ => rfl)
  | bitAbs w => exact .read bitStep (.mem (.abs w)) (fun _ _ => rfl)
  | aslAcc => exact .shift aslResult
  | aslZp a => exact .modify aslResult 5 (.zp a) rfl
  | aslZpX a => exact .modify aslResult 6 (.zpx a) rfl
  | aslAbs w => exact .modify aslResult 6 (.abs w) rfl
  | aslAbsX w => exact .modify aslResult 7 (.absx w) rfl
  | lsrAcc => exact .shift lsrResult
  | lsrZp a => exact .modify lsrResult 5 (.zp a) rfl
  | lsrZpX a => exact .modify lsrResult 6 (.zpx a) rfl
  | lsrAbs w => exact .modify lsrResult 6 (.abs w) rfl
  | lsrAbsX w => exact .modify lsrResult 7 (.absx w) rfl
  | rolAcc => exact .shift rolResult
  | rolZp a => exact .modify rolResult 5 (.zp a) rfl
  | rolZpX a => exact .modify rolResult 6 (.zpx a) rfl
  | rolAbs w => exact .modify rolResult 6 (.abs w) rfl
  | rolAbsX w => exact .modify rolResult 7 (.absx w) rfl
  | rorAcc => exact .shift rorResult
  | rorZp a => exact .modify rorResult 5 (.zp a) rfl
  | rorZpX a => exact .modify rorResult 6 (.zpx a) rfl
  | rorAbs w => exact .modify rorResult 6 (.abs w) rfl
  | rorAbsX w => exact .modify rorResult 7 (.absx w) rfl
  | ldaImm v => exact .read ldaStep (.imm v) (fun _ _ => rfl)
  | ldaZp a => exact .read ldaStep (.mem (.zp a)) (fun _ _ => rfl)
  | ldaZpX a => exact .read ldaStep (.mem (.zpx a)) (fun _ _ => rfl)
  | ldaAbs w => exact .read ldaStep (.mem (.abs w)) (fun _ _ => rfl)
  | ldaAbsX w => exact .read ldaStep (.mem (.absx w)) (fun _ _ => rfl)
  | ldaAbsY w => exact .read ldaStep (.mem (.absy w)) (fun _ _ => rfl)
  | ldaIndX a => exact .read ldaStep (.mem (.indx a)) (fun _ _ => rfl)
  | ldaIndY a => exact .read ldaStep (.mem (.indy a)) (fun _ _ => rfl)
  | ldxImm v => exact .read ldxStep (.imm v) (fun _ _ => rfl)
  | ldxZp a => exact .read ldxStep (.mem (.zp a)) (fun _ _ => rfl)
  | ldxZpY a => exact .read ldxStep (.mem (.zpy a)) (fun _ _ => rfl)
  | ldxAbs w => exact .read ldxStep (.mem (.abs w)) (fun _ _ => rfl)
  | ldxAbsY w => exact .read ldxStep (.mem (.absy w)) (fun _ _ => rfl)
  | ldyImm v => exact .read ldyStep (.imm v) (fun _ _ => rfl)
  | ldyZp a => exact .read ldyStep (.mem (.zp a)) (fun _ _ => rfl)
  | ldyZpX a => exact .read ldyStep (.mem (.zpx a)) (fun _ _ => rfl)
  | ldyAbs w => exact .read ldyStep (.mem (.abs w)) (fun _ _ => rfl)
  | ldyAbsX w => exact .read ldyStep (.mem (.absx w)) (fun _ _ => rfl)
  | staZp a => exact .store s.cpu.a (.zp a)
  | staZpX a => exact .store s.cpu.a (.zpx a)
  | staAbs w => exact .store s.cpu.a (.abs w)
  | staAbsX w => exact .store s.cpu.a (.absx w)
  | staAbsY w => exact .store s.cpu.a (.absy w)
  | staIndX a => exact .store s.cpu.a (.indx a)
  | staIndY a => exact .store s.cpu.a (.indy a)
  | stxZp a => exact .store s.cpu.x (.zp a)
  | stxZpY a => exact .store s.cpu.x (.zpy a)
  | stxAbs w => exact .store s.cpu.x (.abs w)
  | styZp a => exact .store s.cpu.y (.zp a)
  | styZpX a => exact .store s.cpu.y (.zpx a)
  | styAbs w => exact .store s.cpu.y (.abs w)
  | tax => exact .register taxStep 2 (fun _ => rfl) (by decide) (by decide)
  | tay => exact .register tayStep 2 (fun _ => rfl) (by decide) (by decide)
  | txa => exact .register txaStep 2 (fun _ => rfl) (by decide) (by decide)
  | tya => exact .register tyaStep 2 (fun _ => rfl) (by decide) (by decide)
  | tsx => exact .register tsxStep 2 (fun _ => rfl) (by decide) (by decide)
  | txs => exact .register txsStep 2 (fun _ => rfl) (by decide) (by decide)
  | bcc off => exact .branch ((!s.cpu.p.c)) off
  | bcs off => exact .branch (s.cpu.p.c) off
  | beq off => exact .branch (s.cpu.p.z) off
  | bmi off => exact .branch (s.cpu.p.n) off
  | bne off => exact .branch ((!s.cpu.p.z)) off
  | bpl off => exact .branch ((!s.cpu.p.n)) off
  | bvc off => exact .branch ((!s.cpu.p.v)) off
  | bvs off => exact .branch (s.cpu.p.v) off
  | jmpAbs w => exact .jump w 3 (by decide) (by decide)
  | jmpInd w => exact .jump (s.indirectTarget w) 5 (by decide) (by decide)
  | jsr target => exact .jsr target
  | rts => exact .rts
  | brk => exact .brk
  | rti => exact .rti
  | nop => exact .register (fun u => u) 2 (fun _ => rfl) (by decide) (by decide)
  | pha => exact .push s.cpu.a
  | php => exact .push (s.cpu.p.pack true)
  | pla => exact .register plaStep 4 (fun _ => rfl) (by decide) (by decide)
  | plp => exact .register plpStep 4 (fun _ => rfl) (by decide) (by decide)
  | clc => exact .register clcStep 2 (fun _ => rfl) (by decide) (by decide)
  | sec => exact .register secStep 2 (fun _ => rfl) (by decide) (by decide)
  | cli => exact .register cliStep 2 (fun _ => rfl) (by decide) (by decide)
  | sei => exact .register seiStep 2 (fun _ => rfl) (by decide) (by decide)
  | cld => exact .register cldStep 2 (fun _ => rfl) (by decide) (by decide)
  | sed => exact .register sedStep 2 (fun _ => rfl) (by decide) (by decide)
  | clv => exact .register clvStep 2 (fun _ => rfl) (by decide) (by decide)
  | vctr0 _ => exact Isa.noConfusion hi
  | vctr1 _ => exact Isa.noConfusion hi
  | vctr2 _ => exact Isa.noConfusion hi
  | vctr3 _ => exact Isa.noConfusion hi
  | vctr4 _ => exact Isa.noConfusion hi
  | vctr5 _ => exact Isa.noConfusion hi
  | vctr6 _ => exact Isa.noConfusion hi
  | vctr7 _ => exact Isa.noConfusion hi
  | vctr8 _ => exact Isa.noConfusion hi
  | vctr9 _ => exact Isa.noConfusion hi
  | labs _ => exact Isa.noConfusion hi
  | halt _ => exact Isa.noConfusion hi
  | jsrl _ => exact Isa.noConfusion hi
  | rtsl _ => exact Isa.noConfusion hi
  | jmpl _ => exact Isa.noConfusion hi
  | svec _ => exact Isa.noConfusion hi

theorem State.MemoryCanonical.congr {s t : State} (hs : s.MemoryCanonical) (h : t.bus = s.bus) : t.MemoryCanonical := by
  unfold State.MemoryCanonical at *
  rwa [h]

theorem RegisterOnly.keeps {s t : State} (h : RegisterOnly s t) : CpuKeeps s t := by
  unfold RegisterOnly at h
  rw [h]
  exact ⟨rfl, rfl, rfl, rfl, rfl, rfl, rfl, rfl, .inl rfl, id, List.prefix_rfl⟩

theorem State.write_sound_prefix (s : State) (a : Word) (v : Byte) :
    s.bus.soundEvents <+: (s.write a v).bus.soundEvents := by
  rcases s.write_cases a v with ⟨_, -, h⟩ | ⟨_, -, h⟩ | ⟨-, h⟩ | ⟨-, h⟩ | ⟨-, h⟩ | h <;> rw [h] <;> first
    | exact List.prefix_rfl
    | exact List.prefix_append _ _

/-- What a Bus write leaves alone. -/
theorem State.write_keeps (s : State) (a : Word) (v : Byte) : CpuKeeps s (s.write a v) :=
  ⟨by simp, by simp, by simp, by simp, by simp, by simp, by simp, by simp, (s.write_vp a v).imp id fun h => h.2,
    fun hs => State.write_memoryCanonical hs a v, s.write_sound_prefix a v⟩

/-- One access after another. -/
theorem CpuKeeps.trans {s t u : State} (h : CpuKeeps s t) (k : CpuKeeps t u) : CpuKeeps s u where
  sched := k.sched.trans h.sched
  map := k.map.trans h.map
  rom := k.rom.trans h.rom
  snapshot := k.snapshot.trans h.snapshot
  irqPending := k.irqPending.trans h.irqPending
  nmiPending := k.nmiPending.trans h.nmiPending
  cycleCount := k.cycleCount.trans h.cycleCount
  fault := k.fault.trans h.fault
  vp := by
    rcases h.vp with h1 | h1 <;> rcases k.vp with h2 | h2 <;> rw [h2] <;>
      simp [State.startVp, State.setVp, h1]
  memory := fun hs => k.memory (h.memory hs)
  sound := h.sound.trans k.sound

theorem State.push_keeps (s : State) (v : Byte) : CpuKeeps s (s.push v) :=
  (s.write_keeps (stackAddr s.cpu.s) v).trans (RegisterOnly.keeps rfl)

theorem State.pushWord_keeps (s : State) (w : Word) : CpuKeeps s (s.pushWord w) :=
  (s.push_keeps (hi w)).trans ((s.push (hi w)).push_keeps (lo w))

theorem State.enterVector_keeps (s : State) (ret : Word) (brk : Bool) (vec : Word) :
    CpuKeeps s (s.enterVector ret brk vec) :=
  have h := (s.pushWord_keeps ret).trans ((s.pushWord ret).push_keeps (s.cpu.p.pack brk))
  ⟨h.sched, h.map, h.rom, h.snapshot, h.irqPending, h.nmiPending, h.cycleCount, h.fault, h.vp, h.memory, h.sound⟩

theorem CpuKeeps.setP {s t : State} (h : CpuKeeps s t) (p : Flags) : CpuKeeps s (t.setP p) :=
  ⟨h.sched, h.map, h.rom, h.snapshot, h.irqPending, h.nmiPending, h.cycleCount, h.fault, h.vp, h.memory, h.sound⟩

/-- The last thing a step does: the program counter and the cycles it returns. -/
theorem CpuKeeps.finish {s t : State} (h : CpuKeeps s t) (w : Word) {c : Nat} (h2 : 2 ≤ c) (h7 : c ≤ 7) :
    CpuFrame s ((t.setPC w).setCycles c) :=
  { sched := h.sched, map := h.map, rom := h.rom, snapshot := h.snapshot, irqPending := h.irqPending,
    nmiPending := h.nmiPending, cycleCount := h.cycleCount, fault := h.fault, vp := h.vp, memory := h.memory,
    sound := h.sound, least := h2, most := h7 }

theorem CpuKeeps.setCycles {s t : State} (h : CpuKeeps s t) {c : Nat} (h2 : 2 ≤ c) (h7 : c ≤ 7) :
    CpuFrame s (t.setCycles c) :=
  { sched := h.sched, map := h.map, rom := h.rom, snapshot := h.snapshot, irqPending := h.irqPending,
    nmiPending := h.nmiPending, cycleCount := h.cycleCount, fault := h.fault, vp := h.vp, memory := h.memory,
    sound := h.sound, least := h2, most := h7 }

theorem State.readPenalty_le (s : State) (o : Operand) : s.readPenalty o ≤ 1 := by
  cases o with
  | imm v => exact Nat.zero_le _
  | mem m => exact Bool.toNat_le _

theorem readCycles_bounds (o : Operand) : 2 ≤ readCycles o ∧ readCycles o ≤ 6 := by
  rcases o with v | m
  · exact ⟨Nat.le_of_ble_eq_true rfl, Nat.le_of_ble_eq_true rfl⟩
  · cases m <;> exact ⟨Nat.le_of_ble_eq_true rfl, Nat.le_of_ble_eq_true rfl⟩

theorem storeCycles_bounds (m : MemMode) : 2 ≤ storeCycles m ∧ storeCycles m ≤ 7 := by
  cases m <;> exact ⟨Nat.le_of_ble_eq_true rfl, Nat.le_of_ble_eq_true rfl⟩

theorem modifyCycles_bounds {m : MemMode} {c : Nat} (h : modifyCycles m = some c) : 2 ≤ c ∧ c ≤ 7 := by
  cases m <;> cases h <;> exact ⟨Nat.le_of_ble_eq_true rfl, Nat.le_of_ble_eq_true rfl⟩

theorem branchOp_frame {b : Bool} {off : Byte} {s t : State} (h : branchOp b 2 off s = .next t) : CpuFrame s t := by
  have hk : CpuKeeps s s := RegisterOnly.keeps rfl
  have := Bool.toNat_le (decide (hi (s.cpu.pc + 2 + s8 off) ≠ hi (s.cpu.pc + 2)))
  cases b <;> cases h
  · exact hk.finish _ (by decide) (by decide)
  · exact hk.finish _ (by omega) (by omega)

theorem CpuShape.frame {s t : State} {r : Host.Outcome State Fault Refusal} (hr : CpuShape s r) (h : r = .next t) :
    CpuFrame s t := by
  have hk : CpuKeeps s s := RegisterOnly.keeps rfl
  cases hr with
  | read f o hf =>
    have h1 := s.readPenalty_le o
    have h2 := readCycles_bounds o
    rw [readOp_next h]
    exact (hf _ s).keeps.finish _ (by omega) (by omega)
  | store v m =>
    have h2 := storeCycles_bounds m
    rw [storeOp_next h]
    exact (s.write_keeps _ _).finish _ h2.1 h2.2
  | modify f c m hc =>
    have h2 := modifyCycles_bounds hc
    rw [modifyMem_next h]
    exact ((s.write_keeps _ _).setP _).finish _ h2.1 h2.2
  | shift f =>
    rw [modifyAcc_next h]
    exact (RegisterOnly.keeps (s := s) (t := (s.setA (f s.cpu.p s.cpu.a).1).setP (f s.cpu.p s.cpu.a).2) rfl).finish _
      (by decide) (by decide)
  | register g c hg h2 h4 =>
    rw [impliedOp_next h]
    exact (hg s).keeps.finish _ h2 (by omega)
  | branch b off => exact branchOp_frame h
  | push v =>
    rw [← Host.Outcome.next.inj h]
    exact (s.push_keeps v).finish _ (by decide) (by decide)
  | jump w c h2 h5 =>
    rw [← Host.Outcome.next.inj h]
    exact hk.finish _ h2 (by omega)
  | jsr w =>
    simp only [execJsr, Host.Outcome.next.injEq] at h
    rw [← h]
    exact (s.pushWord_keeps _).finish _ (by decide) (by decide)
  | rts =>
    simp only [execRts, Host.Outcome.next.injEq] at h
    rw [← h]
    exact (RegisterOnly.keeps (s := s) (t := s.pop.pop) rfl).finish _ (by decide) (by decide)
  | brk =>
    simp only [execBrk, Host.Outcome.next.injEq] at h
    rw [← h]
    exact (s.enterVector_keeps (s.cpu.pc + 2) true irqVector).setCycles (by decide) (by decide)
  | rti =>
    simp only [execRti, State.returnFromInterrupt, Host.Outcome.next.injEq] at h
    rw [← h]
    exact (RegisterOnly.keeps (s := s) (t := (s.pop.setP (Flags.unpack s.pulled)).pop.pop) rfl).finish _ (by decide)
      (by decide)

/-- Every instruction has a next state. -/
theorem exec_total (i : Instr) (s : State) : ∃ t, exec i s = .next t := by
  have hb : ∀ b c off, ∃ t, branchOp b c off s = .next t := fun b c off => by cases b <;> exact ⟨_, rfl⟩
  cases i <;> first
    | exact ⟨_, rfl⟩
    | exact hb _ _ _

/-- What a CPU instruction leaves alone. -/
theorem exec_cpuFrame {i : Instr} {s t : State} (hi : i.isa = .cpu) (h : exec i s = .next t) : CpuFrame s t :=
  (exec_shape hi s).frame h

/-- What a Vector Processor instruction leaves alone. -/
theorem exec_vpFrame {i : Instr} {s t : State} (hi : i.isa = .vp) (h : exec i s = .next t) : VpFrame s t := by
  cases i <;> first
    | exact Isa.noConfusion hi
    | (cases h; exact ⟨rfl, rfl, rfl, List.prefix_rfl⟩)
    | (cases h; exact ⟨rfl, rfl, rfl, List.prefix_append _ _⟩)

end Sys2Proof.Machine
end

