-- ==== Sys2Proof/Laws/Opcodes.lean ====
section
/-! SUPPORT. The opcodes of a mnemonic, read off the decoder: a finite check over the 256 opcode bytes proves a mnemonic's
"Encoding" line. -/

namespace Sys2Proof

open Machine

/-- The name of a mode. -/
def Mode.name : Mode → ModeName
  | .imp => .imp
  | .acc => .acc
  | .src (.imm _) => .imm
  | .src (.mem (.zp _)) => .zp
  | .src (.mem (.zpx _)) => .zpx
  | .src (.mem (.zpy _)) => .zpy
  | .src (.mem (.abs _)) => .abs
  | .src (.mem (.absx _)) => .absx
  | .src (.mem (.absy _)) => .absy
  | .src (.mem (.indx _)) => .indx
  | .src (.mem (.indy _)) => .indy
  | .ind _ => .ind
  | .rel _ => .rel

/-- A view's mnemonic and mode name. -/
def View.tag : View → Option (Mnemonic × ModeName)
  | .cpu k m => some (k, m.name)
  | .vp _ => none

/-- The mnemonic and the mode name of a cell of the opcode map. -/
def Form.tag : Option Form → Option (Mnemonic × ModeName)
  | none => none
  | some (.f1 i) => i.view.tag
  | some (.f2 mk) => (mk 0).view.tag
  | some (.f3 mk) => (mk 0).view.tag

/-- What the operand bytes make of a cell is what its tag says. -/
def Form.fits (f : Option Form) : Prop :=
  match f with
  | none => True
  | some (.f1 i) => ∀ b1 b2, ∃ k n, Form.tag f = some (k, n) ∧ i.view = .cpu k (n.mode b1 b2)
  | some (.f2 mk) => ∀ b1 b2, ∃ k n, Form.tag f = some (k, n) ∧ (mk b1).view = .cpu k (n.mode b1 b2)
  | some (.f3 mk) => ∀ b1 b2, ∃ k n, Form.tag f = some (k, n) ∧ (mk (w16 b1 b2)).view = .cpu k (n.mode b1 b2)

theorem opcodeMap_fits : ∀ row ∈ opcodeMap, ∀ f ∈ row, Form.fits f := by
  show ∀ row ∈ [opcodeRow0, opcodeRow1, opcodeRow2, opcodeRow3, opcodeRow4, opcodeRow5, opcodeRow6, opcodeRow7,
    opcodeRow8, opcodeRow9, opcodeRowA, opcodeRowB, opcodeRowC, opcodeRowD, opcodeRowE, opcodeRowF], _
  repeat' refine forall_mem_cons ?_ ?_
  all_goals first
    | exact forall_mem_nil
    | exact trivial
    | exact fun _ _ => ⟨_, _, rfl, rfl⟩

theorem opcodeForm_fits (op : Byte) : Form.fits (opcodeForm op) :=
  opcodeForm_of_map trivial opcodeMap_fits op

/-- The mnemonic and the mode name of an opcode. -/
def opcodeTag (op : Byte) : Option (Mnemonic × ModeName) := Form.tag (opcodeForm op)

theorem decode_of_tag {op : Byte} {k : Mnemonic} {n : ModeName} (h : opcodeTag op = some (k, n)) (b1 b2 : Byte) :
    ∃ i rest, decode .cpu [op, b1, b2] = .ok (i, rest) ∧ i.view = .cpu k (n.mode b1 b2) := by
  have hf := opcodeForm_fits op
  unfold opcodeTag at h
  rcases ho : opcodeForm op with _ | ⟨j⟩ | ⟨mk⟩ | ⟨mk⟩ <;> rw [ho] at hf h
  · exact absurd h (by simp [Form.tag])
  all_goals
    obtain ⟨k', n', h', hv⟩ := hf b1 b2
    rw [h] at h'
    obtain ⟨rfl, rfl⟩ := Prod.mk.inj (Option.some.inj h')
    exact ⟨_, _, by simp only [decode, decodeCpu, ho]; rfl, hv⟩

theorem tag_of_decode {op b1 b2 : Byte} {i : Instr} {rest : List Byte} (h : decode .cpu [op, b1, b2] = .ok (i, rest)) :
    ∃ k n, opcodeTag op = some (k, n) ∧ i.view = .cpu k (n.mode b1 b2) := by
  rcases ho : opcodeTag op with _ | ⟨k, n⟩
  · have hf := opcodeForm_fits op
    unfold opcodeTag at ho
    rcases hp : opcodeForm op with _ | ⟨j⟩ | ⟨mk⟩ | ⟨mk⟩ <;> rw [hp] at hf ho
    · simp [decode, decodeCpu, hp] at h
    all_goals
      obtain ⟨k', n', h', -⟩ := hf b1 b2
      rw [ho] at h'
      exact absurd h' (by simp)
  · obtain ⟨i', rest', h', hv⟩ := decode_of_tag ho b1 b2
    rw [h] at h'
    simp only [Except.ok.injEq, Prod.mk.injEq] at h'
    exact ⟨k, n, rfl, h'.1 ▸ hv⟩

/-- A mnemonic has the opcodes of a list if each opcode of the list has the mnemonic and the mode given with it, and no
opcode outside the list has the mnemonic. Both are finite checks. -/
theorem hasOpcodes_of {k : Mnemonic} {l : List (Byte × ModeName)} (h1 : ∀ e ∈ l, opcodeTag e.1 = some (k, e.2))
    (h2 : ∀ op : Byte, (opcodeTag op).map Prod.fst = some k → op ∈ l.map Prod.fst) : k.HasOpcodes l := by
  refine fun op b1 b2 m => ⟨fun ⟨i, rest, hd, hv⟩ => ?_, fun ⟨n, hn, hm⟩ => ?_⟩
  · obtain ⟨k', n, ht, hv'⟩ := tag_of_decode hd
    rw [hv] at hv'
    obtain ⟨rfl, rfl⟩ := View.cpu.inj hv'
    obtain ⟨⟨op', n'⟩, he, rfl⟩ := List.mem_map.1 (h2 op (by rw [ht]; rfl))
    have := h1 _ he
    rw [ht] at this
    obtain ⟨-, rfl⟩ := Prod.mk.inj (Option.some.inj this)
    exact ⟨n, he, rfl⟩
  · obtain ⟨i, rest, hd, hv⟩ := decode_of_tag (h1 _ hn) b1 b2
    exact ⟨i, rest, hd, hm ▸ hv⟩

end Sys2Proof
end

