-- ==== Sys2Proof/Laws/PerInstr.lean ====
section
/-! SUPPORT. Statements made per instruction, one lemma per constructor of Instr. -/

namespace Sys2Proof.Laws.EncodeLength

/-- The encoder writes as many bytes as the instruction's mode or words give it (30_encoding R162, 46_vector_processor
R324). -/
def Statement (i : Instr) : Prop := (encode i).length = i.length

theorem adcImm (v : Byte) : Statement (.adcImm v) := rfl
theorem adcZp (a : Byte) : Statement (.adcZp a) := rfl
theorem adcZpX (a : Byte) : Statement (.adcZpX a) := rfl
theorem adcAbs (w : Word) : Statement (.adcAbs w) := rfl
theorem adcAbsX (w : Word) : Statement (.adcAbsX w) := rfl
theorem adcAbsY (w : Word) : Statement (.adcAbsY w) := rfl
theorem adcIndX (a : Byte) : Statement (.adcIndX a) := rfl
theorem adcIndY (a : Byte) : Statement (.adcIndY a) := rfl
theorem sbcImm (v : Byte) : Statement (.sbcImm v) := rfl
theorem sbcZp (a : Byte) : Statement (.sbcZp a) := rfl
theorem sbcZpX (a : Byte) : Statement (.sbcZpX a) := rfl
theorem sbcAbs (w : Word) : Statement (.sbcAbs w) := rfl
theorem sbcAbsX (w : Word) : Statement (.sbcAbsX w) := rfl
theorem sbcAbsY (w : Word) : Statement (.sbcAbsY w) := rfl
theorem sbcIndX (a : Byte) : Statement (.sbcIndX a) := rfl
theorem sbcIndY (a : Byte) : Statement (.sbcIndY a) := rfl
theorem cmpImm (v : Byte) : Statement (.cmpImm v) := rfl
theorem cmpZp (a : Byte) : Statement (.cmpZp a) := rfl
theorem cmpZpX (a : Byte) : Statement (.cmpZpX a) := rfl
theorem cmpAbs (w : Word) : Statement (.cmpAbs w) := rfl
theorem cmpAbsX (w : Word) : Statement (.cmpAbsX w) := rfl
theorem cmpAbsY (w : Word) : Statement (.cmpAbsY w) := rfl
theorem cmpIndX (a : Byte) : Statement (.cmpIndX a) := rfl
theorem cmpIndY (a : Byte) : Statement (.cmpIndY a) := rfl
theorem cpxImm (v : Byte) : Statement (.cpxImm v) := rfl
theorem cpxZp (a : Byte) : Statement (.cpxZp a) := rfl
theorem cpxAbs (w : Word) : Statement (.cpxAbs w) := rfl
theorem cpyImm (v : Byte) : Statement (.cpyImm v) := rfl
theorem cpyZp (a : Byte) : Statement (.cpyZp a) := rfl
theorem cpyAbs (w : Word) : Statement (.cpyAbs w) := rfl
theorem incZp (a : Byte) : Statement (.incZp a) := rfl
theorem incZpX (a : Byte) : Statement (.incZpX a) := rfl
theorem incAbs (w : Word) : Statement (.incAbs w) := rfl
theorem incAbsX (w : Word) : Statement (.incAbsX w) := rfl
theorem decZp (a : Byte) : Statement (.decZp a) := rfl
theorem decZpX (a : Byte) : Statement (.decZpX a) := rfl
theorem decAbs (w : Word) : Statement (.decAbs w) := rfl
theorem decAbsX (w : Word) : Statement (.decAbsX w) := rfl
theorem inx : Statement (.inx) := rfl
theorem iny : Statement (.iny) := rfl
theorem dex : Statement (.dex) := rfl
theorem dey : Statement (.dey) := rfl
theorem andImm (v : Byte) : Statement (.andImm v) := rfl
theorem andZp (a : Byte) : Statement (.andZp a) := rfl
theorem andZpX (a : Byte) : Statement (.andZpX a) := rfl
theorem andAbs (w : Word) : Statement (.andAbs w) := rfl
theorem andAbsX (w : Word) : Statement (.andAbsX w) := rfl
theorem andAbsY (w : Word) : Statement (.andAbsY w) := rfl
theorem andIndX (a : Byte) : Statement (.andIndX a) := rfl
theorem andIndY (a : Byte) : Statement (.andIndY a) := rfl
theorem oraImm (v : Byte) : Statement (.oraImm v) := rfl
theorem oraZp (a : Byte) : Statement (.oraZp a) := rfl
theorem oraZpX (a : Byte) : Statement (.oraZpX a) := rfl
theorem oraAbs (w : Word) : Statement (.oraAbs w) := rfl
theorem oraAbsX (w : Word) : Statement (.oraAbsX w) := rfl
theorem oraAbsY (w : Word) : Statement (.oraAbsY w) := rfl
theorem oraIndX (a : Byte) : Statement (.oraIndX a) := rfl
theorem oraIndY (a : Byte) : Statement (.oraIndY a) := rfl
theorem eorImm (v : Byte) : Statement (.eorImm v) := rfl
theorem eorZp (a : Byte) : Statement (.eorZp a) := rfl
theorem eorZpX (a : Byte) : Statement (.eorZpX a) := rfl
theorem eorAbs (w : Word) : Statement (.eorAbs w) := rfl
theorem eorAbsX (w : Word) : Statement (.eorAbsX w) := rfl
theorem eorAbsY (w : Word) : Statement (.eorAbsY w) := rfl
theorem eorIndX (a : Byte) : Statement (.eorIndX a) := rfl
theorem eorIndY (a : Byte) : Statement (.eorIndY a) := rfl
theorem bitZp (a : Byte) : Statement (.bitZp a) := rfl
theorem bitAbs (w : Word) : Statement (.bitAbs w) := rfl
theorem aslAcc : Statement (.aslAcc) := rfl
theorem aslZp (a : Byte) : Statement (.aslZp a) := rfl
theorem aslZpX (a : Byte) : Statement (.aslZpX a) := rfl
theorem aslAbs (w : Word) : Statement (.aslAbs w) := rfl
theorem aslAbsX (w : Word) : Statement (.aslAbsX w) := rfl
theorem lsrAcc : Statement (.lsrAcc) := rfl
theorem lsrZp (a : Byte) : Statement (.lsrZp a) := rfl
theorem lsrZpX (a : Byte) : Statement (.lsrZpX a) := rfl
theorem lsrAbs (w : Word) : Statement (.lsrAbs w) := rfl
theorem lsrAbsX (w : Word) : Statement (.lsrAbsX w) := rfl
theorem rolAcc : Statement (.rolAcc) := rfl
theorem rolZp (a : Byte) : Statement (.rolZp a) := rfl
theorem rolZpX (a : Byte) : Statement (.rolZpX a) := rfl
theorem rolAbs (w : Word) : Statement (.rolAbs w) := rfl
theorem rolAbsX (w : Word) : Statement (.rolAbsX w) := rfl
theorem rorAcc : Statement (.rorAcc) := rfl
theorem rorZp (a : Byte) : Statement (.rorZp a) := rfl
theorem rorZpX (a : Byte) : Statement (.rorZpX a) := rfl
theorem rorAbs (w : Word) : Statement (.rorAbs w) := rfl
theorem rorAbsX (w : Word) : Statement (.rorAbsX w) := rfl
theorem ldaImm (v : Byte) : Statement (.ldaImm v) := rfl
theorem ldaZp (a : Byte) : Statement (.ldaZp a) := rfl
theorem ldaZpX (a : Byte) : Statement (.ldaZpX a) := rfl
theorem ldaAbs (w : Word) : Statement (.ldaAbs w) := rfl
theorem ldaAbsX (w : Word) : Statement (.ldaAbsX w) := rfl
theorem ldaAbsY (w : Word) : Statement (.ldaAbsY w) := rfl
theorem ldaIndX (a : Byte) : Statement (.ldaIndX a) := rfl
theorem ldaIndY (a : Byte) : Statement (.ldaIndY a) := rfl
theorem ldxImm (v : Byte) : Statement (.ldxImm v) := rfl
theorem ldxZp (a : Byte) : Statement (.ldxZp a) := rfl
theorem ldxZpY (a : Byte) : Statement (.ldxZpY a) := rfl
theorem ldxAbs (w : Word) : Statement (.ldxAbs w) := rfl
theorem ldxAbsY (w : Word) : Statement (.ldxAbsY w) := rfl
theorem ldyImm (v : Byte) : Statement (.ldyImm v) := rfl
theorem ldyZp (a : Byte) : Statement (.ldyZp a) := rfl
theorem ldyZpX (a : Byte) : Statement (.ldyZpX a) := rfl
theorem ldyAbs (w : Word) : Statement (.ldyAbs w) := rfl
theorem ldyAbsX (w : Word) : Statement (.ldyAbsX w) := rfl
theorem staZp (a : Byte) : Statement (.staZp a) := rfl
theorem staZpX (a : Byte) : Statement (.staZpX a) := rfl
theorem staAbs (w : Word) : Statement (.staAbs w) := rfl
theorem staAbsX (w : Word) : Statement (.staAbsX w) := rfl
theorem staAbsY (w : Word) : Statement (.staAbsY w) := rfl
theorem staIndX (a : Byte) : Statement (.staIndX a) := rfl
theorem staIndY (a : Byte) : Statement (.staIndY a) := rfl
theorem stxZp (a : Byte) : Statement (.stxZp a) := rfl
theorem stxZpY (a : Byte) : Statement (.stxZpY a) := rfl
theorem stxAbs (w : Word) : Statement (.stxAbs w) := rfl
theorem styZp (a : Byte) : Statement (.styZp a) := rfl
theorem styZpX (a : Byte) : Statement (.styZpX a) := rfl
theorem styAbs (w : Word) : Statement (.styAbs w) := rfl
theorem tax : Statement (.tax) := rfl
theorem tay : Statement (.tay) := rfl
theorem txa : Statement (.txa) := rfl
theorem tya : Statement (.tya) := rfl
theorem tsx : Statement (.tsx) := rfl
theorem txs : Statement (.txs) := rfl
theorem bcc (off : Byte) : Statement (.bcc off) := rfl
theorem bcs (off : Byte) : Statement (.bcs off) := rfl
theorem beq (off : Byte) : Statement (.beq off) := rfl
theorem bmi (off : Byte) : Statement (.bmi off) := rfl
theorem bne (off : Byte) : Statement (.bne off) := rfl
theorem bpl (off : Byte) : Statement (.bpl off) := rfl
theorem bvc (off : Byte) : Statement (.bvc off) := rfl
theorem bvs (off : Byte) : Statement (.bvs off) := rfl
theorem jmpAbs (w : Word) : Statement (.jmpAbs w) := rfl
theorem jmpInd (w : Word) : Statement (.jmpInd w) := rfl
theorem jsr (target : Word) : Statement (.jsr target) := rfl
theorem rts : Statement (.rts) := rfl
theorem brk : Statement (.brk) := rfl
theorem rti : Statement (.rti) := rfl
theorem nop : Statement (.nop) := rfl
theorem pha : Statement (.pha) := rfl
theorem php : Statement (.php) := rfl
theorem pla : Statement (.pla) := rfl
theorem plp : Statement (.plp) := rfl
theorem clc : Statement (.clc) := rfl
theorem sec : Statement (.sec) := rfl
theorem cli : Statement (.cli) := rfl
theorem sei : Statement (.sei) := rfl
theorem cld : Statement (.cld) := rfl
theorem sed : Statement (.sed) := rfl
theorem clv : Statement (.clv) := rfl
theorem vctr0 (f : VctrFields) : Statement (.vctr0 f) := rfl
theorem vctr1 (f : VctrFields) : Statement (.vctr1 f) := rfl
theorem vctr2 (f : VctrFields) : Statement (.vctr2 f) := rfl
theorem vctr3 (f : VctrFields) : Statement (.vctr3 f) := rfl
theorem vctr4 (f : VctrFields) : Statement (.vctr4 f) := rfl
theorem vctr5 (f : VctrFields) : Statement (.vctr5 f) := rfl
theorem vctr6 (f : VctrFields) : Statement (.vctr6 f) := rfl
theorem vctr7 (f : VctrFields) : Statement (.vctr7 f) := rfl
theorem vctr8 (f : VctrFields) : Statement (.vctr8 f) := rfl
theorem vctr9 (f : VctrFields) : Statement (.vctr9 f) := rfl
theorem labs (f : LabsFields) : Statement (.labs f) := rfl
theorem halt (u : BitVec 12) : Statement (.halt u) := rfl
theorem jsrl (t : VAddr) : Statement (.jsrl t) := rfl
theorem rtsl (u : BitVec 12) : Statement (.rtsl u) := rfl
theorem jmpl (t : VAddr) : Statement (.jmpl t) := rfl
theorem svec (f : SvecFields) : Statement (.svec f) := rfl

end Sys2Proof.Laws.EncodeLength
end

