-- ==== Sys2Proof/Laws/Step.lean ====
section
/-! SUPPORT. What one step can do, said once: the CPU step by its four cases, the Scheduler's bookkeeping field by field,
and the step of the whole machine. -/

namespace Sys2Proof.Machine

/-- The CPU fetches CPU instructions. -/
theorem fetch_isa {s : State} {i : Instr} {rest : List Byte} (h : decode .cpu s.fetchBytes = .ok (i, rest)) :
    i.isa = .cpu := by
  simp only [decode] at h
  exact decodeCpu_isa h

/-- The Vector Processor fetches Vector Processor instructions. -/
theorem State.vpFetch_isa (s : State) : s.vpFetch.isa = .vp := decodeVpWords_isa _ _

/-- The instruction half of a CPU step runs the decoded instruction, or records a decode fault (30_encoding R174). -/
theorem cpuInstruction_cases (s : State) :
    (∃ i rest, decode .cpu s.fetchBytes = .ok (i, rest) ∧ i.isa = .cpu ∧ cpuInstruction s = exec i s) ∨
    (opcodeForm (s.read s.cpu.pc) = none ∧ cpuInstruction s = .next s.raiseDecodeFault) := by
  rcases decodeCpu_three (s.read s.cpu.pc) (s.read (s.cpu.pc + 1)) (s.read (s.cpu.pc + 2)) with ⟨h0, h⟩ | ⟨-, i, rest, h⟩
  · exact .inr ⟨h0, by simp only [cpuInstruction, decode, State.fetchBytes, h]⟩
  · exact .inl ⟨i, rest, h, decodeCpu_isa h, by simp only [cpuInstruction, decode, State.fetchBytes, h]⟩

/-- A CPU step is an interrupt entry, one instruction, or a decode fault (60_exceptions R411). -/
theorem cpuStep_cases (s : State) :
    (s.cpu.nmiPending = true ∧ cpuStep s = .next ((s.setNmi false).interruptEntry nmiVector)) ∨
    (s.cpu.nmiPending = false ∧ s.cpu.irqPending = true ∧ s.cpu.p.i = false ∧
      cpuStep s = .next ((s.setIrq false).interruptEntry irqVector)) ∨
    (s.pollInterrupt = none ∧ cpuStep s = cpuInstruction s) := by
  unfold cpuStep State.pollInterrupt
  cases s.cpu.nmiPending <;> cases s.cpu.irqPending <;> cases s.cpu.p.i <;> simp

/-- What a CPU step leaves alone, whatever it does. -/
structure StepKeeps (s t : State) : Prop where
  sched : t.sched = s.sched
  map : t.bus.map = s.bus.map
  rom : t.bus.rom = s.bus.rom
  snapshot : t.bus.snapshot = s.bus.snapshot
  cycleCount : t.cpu.cycleCount = s.cpu.cycleCount
  vp : t.vp = s.vp ∨ t.vp = s.startVp.vp
  memory : s.MemoryCanonical → t.MemoryCanonical
  sound : s.bus.soundEvents <+: t.bus.soundEvents
  most : t.cpu.cycles ≤ 7

/-- Taking an interrupt keeps what an instruction keeps, and returns seven cycles. -/
theorem State.interruptEntry_frame (s : State) (vec : Word) : CpuFrame s (s.interruptEntry vec) :=
  (s.enterVector_keeps s.cpu.pc false vec).setCycles (by decide) (by decide)

theorem CpuFrame.stepKeeps {s t : State} (h : CpuFrame s t) : StepKeeps s t :=
  ⟨h.sched, h.map, h.rom, h.snapshot, h.cycleCount, h.vp, h.memory, h.sound, h.most⟩

/-- Every CPU step ends in a next state. It leaves the fault register alone and returns at least two cycles, or it records
a decode fault and returns none. -/
theorem cpuStep_next (s : State) : ∃ t, cpuStep s = .next t ∧ StepKeeps s t ∧
    ((t.cpu.fault = s.cpu.fault ∧ 2 ≤ t.cpu.cycles) ∨
     (s.pollInterrupt = none ∧ opcodeForm (s.read s.cpu.pc) = none ∧ t = s.raiseDecodeFault)) := by
  rcases cpuStep_cases s with ⟨-, h⟩ | ⟨-, -, -, h⟩ | ⟨hp, h⟩
  · have hf := (s.setNmi false).interruptEntry_frame nmiVector
    exact ⟨_, h, ⟨hf.sched, hf.map, hf.rom, hf.snapshot, hf.cycleCount, hf.vp, hf.memory, hf.sound, hf.most⟩,
      .inl ⟨hf.fault, hf.least⟩⟩
  · have hf := (s.setIrq false).interruptEntry_frame irqVector
    exact ⟨_, h, ⟨hf.sched, hf.map, hf.rom, hf.snapshot, hf.cycleCount, hf.vp, hf.memory, hf.sound, hf.most⟩,
      .inl ⟨hf.fault, hf.least⟩⟩
  · rcases cpuInstruction_cases s with ⟨i, rest, hd, hi, he⟩ | ⟨h0, he⟩
    · obtain ⟨t, ht⟩ := exec_total i s
      have hf := exec_cpuFrame hi ht
      exact ⟨t, by rw [h, he, ht], hf.stepKeeps, .inl ⟨hf.fault, hf.least⟩⟩
    · exact ⟨_, h.trans he, ⟨rfl, rfl, rfl, rfl, rfl, .inl rfl, fun hs => hs.congr rfl, List.prefix_rfl, Nat.zero_le _⟩,
        .inr ⟨hp, h0, rfl⟩⟩

/-- A step of a machine with no fault always has a next state: the CPU's turn or the Vector Processor's. -/
theorem step_next {s : State} (h : s.cpu.fault = none) :
    (s.sched.turn = .cpu ∧ ∃ u, cpuStep s.beginFrame = .next u ∧ step s = .next u.afterCpuStep) ∨
    (s.sched.turn = .vp ∧ ∃ u, exec s.vpFetch s = .next u ∧ step s = .next (u.afterVpInstr s.vpCost)) := by
  rcases ht : s.sched.turn with _ | _
  · obtain ⟨u, hu, -⟩ := cpuStep_next s.beginFrame
    exact .inl ⟨rfl, u, hu, by simp only [step, h, ht, cpuTurn, hu]⟩
  · obtain ⟨u, hu⟩ := exec_total s.vpFetch s
    exact .inr ⟨rfl, u, hu, by simp only [step, h, ht, vpTurn, hu]⟩

/-- What a next state of the whole machine came from. -/
theorem step_cases {s t : State} (h : step s = .next t) :
    s.cpu.fault = none ∧
    ((s.sched.turn = .cpu ∧ ∃ u, cpuStep s.beginFrame = .next u ∧ t = u.afterCpuStep) ∨
     (s.sched.turn = .vp ∧ ∃ u, exec s.vpFetch s = .next u ∧ t = u.afterVpInstr s.vpCost)) := by
  rcases hf : s.cpu.fault with _ | f
  · refine ⟨rfl, ?_⟩
    rcases step_next hf with ⟨h1, u, h2, h3⟩ | ⟨h1, u, h2, h3⟩ <;> rw [h] at h3 <;>
      simp only [Host.Outcome.next.injEq] at h3
    · exact .inl ⟨h1, u, h2, h3⟩
    · exact .inr ⟨h1, u, h2, h3⟩
  · simp [step, hf] at h

/-- One step and then the rest of a run. -/
theorem steps_succ {s t : State} (h : step s = .next t) (n : Nat) : steps (n + 1) s = steps n t := by
  simp only [steps, h]

/-- `steps` is the host's own run of the core. -/
theorem steps_eq_run (n : Nat) (s : State) : steps n s = Host.Core.run Sys2Proof.core n s := by
  induction n generalizing s with
  | zero => rfl
  | succ n ih =>
    simp only [steps, Host.Core.run, Sys2Proof.core]
    split <;> simp_all [Sys2Proof.core]

/-! The beginning of a frame. -/

@[simp] theorem State.openFrame_cpu (s : State) (i : Inputs) : (s.openFrame i).cpu = s.cpu := rfl
@[simp] theorem State.openFrame_vp (s : State) (i : Inputs) : (s.openFrame i).vp = s.vp := rfl
@[simp] theorem State.openFrame_bus (s : State) (i : Inputs) :
    (s.openFrame i).bus = { s.bus with snapshot := i, soundEvents := [] } := rfl
@[simp] theorem State.openFrame_sched (s : State) (i : Inputs) :
    (s.openFrame i).sched = { s.sched with segments := [], budget := Config.frameCycles - s.sched.frameOvershoot,
                                           used := 0, frameOpen := true } := rfl

/-- A frame in progress is gone on with; otherwise one is opened, on the next snapshot or the last one. -/
theorem State.beginFrame_cases (s : State) :
    (s.sched.frameOpen = true ∧ s.beginFrame = s) ∨
    (s.sched.frameOpen = false ∧ ∃ inp rest,
      s.beginFrame = (s.setSched { s.sched with pendingInputs := rest }).openFrame inp) := by
  unfold State.beginFrame
  rcases hf : s.sched.frameOpen with _ | _
  · rcases hp : s.sched.pendingInputs with _ | ⟨inp, rest⟩
    · have hs : s.setSched { s.sched with pendingInputs := [] } = s := by rw [← hp]; rfl
      exact .inr ⟨rfl, s.bus.snapshot, [], by rw [hs]; rfl⟩
    · exact .inr ⟨rfl, inp, rest, rfl⟩
  · exact .inl ⟨rfl, rfl⟩

@[simp] theorem State.beginFrame_cpu (s : State) : s.beginFrame.cpu = s.cpu := by
  rcases s.beginFrame_cases with ⟨-, h⟩ | ⟨-, _, _, h⟩ <;> rw [h]; rfl
@[simp] theorem State.beginFrame_vp (s : State) : s.beginFrame.vp = s.vp := by
  rcases s.beginFrame_cases with ⟨-, h⟩ | ⟨-, _, _, h⟩ <;> rw [h]; rfl
@[simp] theorem State.beginFrame_frameOpen (s : State) : s.beginFrame.sched.frameOpen = true := by
  rcases s.beginFrame_cases with ⟨h0, h⟩ | ⟨-, _, _, h⟩ <;> rw [h]
  · exact h0
  · rfl
theorem State.beginFrame_stores (s : State) :
    s.beginFrame.bus.ram = s.bus.ram ∧ s.beginFrame.bus.vram = s.bus.vram ∧ s.beginFrame.bus.rom = s.bus.rom ∧
    s.beginFrame.bus.outLatch = s.bus.outLatch ∧ s.beginFrame.bus.map = s.bus.map := by
  rcases s.beginFrame_cases with ⟨-, h⟩ | ⟨-, _, _, h⟩ <;> rw [h] <;> exact ⟨rfl, rfl, rfl, rfl, rfl⟩

/-! The end of a step. -/

/-- The NMI timer touches the NMI request and its own phase only (60_exceptions R420). -/
theorem State.nmiLoop_frame (n : Nat) (s : State) :
    ∃ b k, State.nmiLoop n s = (s.setNmi b).setSched { s.sched with nmiPhase := s.sched.nmiPhase + k * Config.nmiPeriod } := by
  induction n generalizing s with
  | zero => exact ⟨s.cpu.nmiPending, 0, by simp [State.nmiLoop]; rfl⟩
  | succ n ih =>
    unfold State.nmiLoop
    split
    · obtain ⟨b, k, h⟩ := ih s.nmiTick
      refine ⟨b, k + 1, h.trans ?_⟩
      simp only [State.nmiTick, State.setNmi, State.setSched, Nat.add_mul, Nat.one_mul]
      simp only [Nat.add_assoc, Nat.add_comm (k * _)]
    · exact ⟨s.cpu.nmiPending, 0, by simp; rfl⟩

end Sys2Proof.Machine
end

