-- ==== Sys2Proof/Laws/Schedule.lean ====
section
/-! SUPPORT. What the Vector Processor's reads depend on, and the Scheduler's bookkeeping after a step. -/

namespace Sys2Proof.Machine

/-! The Vector Processor's reads. -/

theorem vpByteAddr_toNat (w : VAddr) : (vpByteAddr w).toNat = 0x4000 + 2 * w.toNat := by
  have := w.isLt
  simp only [vpByteAddr, BitVec.toNat_ofNat]
  omega

theorem vpByteAddr_succ_toNat (w : VAddr) : (vpByteAddr w + 1).toNat = 0x4000 + 2 * w.toNat + 1 := by
  have := w.isLt
  rw [BitVec.toNat_add, vpByteAddr_toNat]
  exact Nat.mod_eq_of_lt (show 0x4000 + 2 * w.toNat + 1 < 65536 by omega)

/-- A byte of the Vector Processor's space depends on vector RAM and ROM only (46_vector_processor R345). -/
theorem State.read_vpSpace {s t : State} (hw : s.bus.map.WellFormed) (hm : s.bus.map = t.bus.map)
    (hv : s.bus.vram = t.bus.vram) (hr : s.bus.rom = t.bus.rom) {a : Word} (h4 : 0x4000 ≤ a.toNat) (h6 : a.toNat < 0x6000) :
    s.read a = t.read a := by
  have ha : s.bus.map.classify a = s.bus.map.regionAt a.toNat := by
    rw [MemoryMap.classify, Nat.mod_eq_of_lt (by omega)]
  rcases hw.vpSpace _ h4 h6 with ⟨j, h⟩ | ⟨j, h⟩ | h <;> simp only [State.read, ← hm, ha, h, hv, hr]

/-- A word of the Vector Processor's space depends on vector RAM and ROM only (46_vector_processor R345). -/
theorem State.vpRead_congr {s t : State} (hw : s.bus.map.WellFormed) (hm : s.bus.map = t.bus.map)
    (hv : s.bus.vram = t.bus.vram) (hr : s.bus.rom = t.bus.rom) (w : VAddr) : s.vpRead w = t.vpRead w := by
  have := w.isLt
  have h1 := vpByteAddr_toNat w
  have h2 := vpByteAddr_succ_toNat w
  rw [State.vpRead, State.vpRead, State.read_vpSpace hw hm hv hr (by omega) (by omega),
    State.read_vpSpace (s := s) hw hm hv hr (by omega) (by omega)]

theorem State.vpWord0_congr {s t : State} (hw : s.bus.map.WellFormed) (hm : s.bus.map = t.bus.map)
    (hv : s.bus.vram = t.bus.vram) (hr : s.bus.rom = t.bus.rom) (hp : s.vp.vpc = t.vp.vpc) : s.vpWord0 = t.vpWord0 := by
  rw [State.vpWord0, State.vpWord0, hp, State.vpRead_congr hw hm hv hr]

theorem State.vpFetch_congr {s t : State} (hw : s.bus.map.WellFormed) (hm : s.bus.map = t.bus.map)
    (hv : s.bus.vram = t.bus.vram) (hr : s.bus.rom = t.bus.rom) (hp : s.vp.vpc = t.vp.vpc) : s.vpFetch = t.vpFetch := by
  rw [State.vpFetch, State.vpFetch, State.vpWord0_congr hw hm hv hr hp, State.vpWord1, State.vpWord1, hp,
    State.vpRead_congr hw hm hv hr]

theorem State.vpCost_congr {s t : State} (hw : s.bus.map.WellFormed) (hm : s.bus.map = t.bus.map)
    (hv : s.bus.vram = t.bus.vram) (hr : s.bus.rom = t.bus.rom) (hp : s.vp.vpc = t.vp.vpc) : s.vpCost = t.vpCost := by
  rw [State.vpCost, State.vpCost, State.vpWord0_congr hw hm hv hr hp]

theorem State.vpReady_congr {s t : State} (hw : s.bus.map.WellFormed) (hm : s.bus.map = t.bus.map)
    (hv : s.bus.vram = t.bus.vram) (hr : s.bus.rom = t.bus.rom) (hp : s.vp = t.vp)
    (hc : s.sched.vpCredit = t.sched.vpCredit) : s.vpReady = t.vpReady := by
  rw [State.vpReady, State.vpReady, State.vpCost_congr hw hm hv hr (congrArg VpState.vpc hp), hp, hc]

/-! What the Vector Processor fetches does not depend on the Scheduler, whatever the map. -/

@[simp] theorem State.vpFetch_setSched (s : State) (d : SchedState) : (s.setSched d).vpFetch = s.vpFetch := rfl
@[simp] theorem State.vpCost_setSched (s : State) (d : SchedState) : (s.setSched d).vpCost = s.vpCost := rfl
theorem State.vpReady_setSched (s : State) (d : SchedState) (h : d.vpCredit = s.sched.vpCredit) :
    (s.setSched d).vpReady = s.vpReady := by
  simp only [State.vpReady, State.vpCost_setSched, State.setSched_vp, State.setSched_sched, h]

/-- Every instruction of the Vector Processor costs at least one cycle (46_vector_processor R342). -/
theorem State.vpCost_pos (s : State) : 1 ≤ s.vpCost := Nat.le_add_left 1 _

/-! The end of a frame and the hand-over. -/

/-- Closing a frame touches `frameOpen` and `frameOvershoot` only, and only when the budget is used up. -/
theorem SchedState.close_cases (d : SchedState) :
    (d.used < d.budget ∧ d.close = d) ∨
    (d.budget ≤ d.used ∧ d.close = { d with frameOpen := false, frameOvershoot := d.used - d.budget }) := by
  unfold SchedState.close
  split
  · exact .inl ⟨‹_›, rfl⟩
  · exact .inr ⟨by omega, rfl⟩

@[simp] theorem SchedState.close_vpCredit (d : SchedState) : d.close.vpCredit = d.vpCredit := by
  rcases d.close_cases with ⟨-, h⟩ | ⟨-, h⟩ <;> rw [h]
@[simp] theorem SchedState.close_nmiPhase (d : SchedState) : d.close.nmiPhase = d.nmiPhase := by
  rcases d.close_cases with ⟨-, h⟩ | ⟨-, h⟩ <;> rw [h]
@[simp] theorem SchedState.close_segments (d : SchedState) : d.close.segments = d.segments := by
  rcases d.close_cases with ⟨-, h⟩ | ⟨-, h⟩ <;> rw [h]
@[simp] theorem SchedState.close_used (d : SchedState) : d.close.used = d.used := by
  rcases d.close_cases with ⟨-, h⟩ | ⟨-, h⟩ <;> rw [h]
@[simp] theorem SchedState.close_budget (d : SchedState) : d.close.budget = d.budget := by
  rcases d.close_cases with ⟨-, h⟩ | ⟨-, h⟩ <;> rw [h]
@[simp] theorem SchedState.close_turn (d : SchedState) : d.close.turn = d.turn := by
  rcases d.close_cases with ⟨-, h⟩ | ⟨-, h⟩ <;> rw [h]

/-- The hand-over gives the turn to the Vector Processor when it is ready, else to the CPU, closing a used-up frame. -/
theorem State.handOver_cases (s : State) :
    (s.vpReady = true ∧ s.handOver = s.setSched { s.sched with turn := .vp }) ∨
    (s.vpReady = false ∧ s.handOver = (s.setSched { s.sched with turn := .cpu }).closeFrame) := by
  unfold State.handOver
  cases h : s.vpReady
  · exact .inr ⟨rfl, rfl⟩
  · exact .inl ⟨rfl, rfl⟩

@[simp] theorem State.closeFrame_cpu (s : State) : s.closeFrame.cpu = s.cpu := rfl
@[simp] theorem State.closeFrame_bus (s : State) : s.closeFrame.bus = s.bus := rfl
@[simp] theorem State.closeFrame_vp (s : State) : s.closeFrame.vp = s.vp := rfl
@[simp] theorem State.closeFrame_sched (s : State) : s.closeFrame.sched = s.sched.close := rfl
@[simp] theorem State.handOver_cpu (s : State) : s.handOver.cpu = s.cpu := rfl
@[simp] theorem State.handOver_bus (s : State) : s.handOver.bus = s.bus := rfl
@[simp] theorem State.handOver_vp (s : State) : s.handOver.vp = s.vp := rfl
@[simp] theorem State.handOver_vpCredit (s : State) : s.handOver.sched.vpCredit = s.sched.vpCredit := by
  rcases s.handOver_cases with ⟨-, h⟩ | ⟨-, h⟩ <;> rw [h] <;> simp
@[simp] theorem State.handOver_nmiPhase (s : State) : s.handOver.sched.nmiPhase = s.sched.nmiPhase := by
  rcases s.handOver_cases with ⟨-, h⟩ | ⟨-, h⟩ <;> rw [h] <;> simp
@[simp] theorem State.handOver_used (s : State) : s.handOver.sched.used = s.sched.used := by
  rcases s.handOver_cases with ⟨-, h⟩ | ⟨-, h⟩ <;> rw [h] <;> simp
@[simp] theorem State.handOver_budget (s : State) : s.handOver.sched.budget = s.sched.budget := by
  rcases s.handOver_cases with ⟨-, h⟩ | ⟨-, h⟩ <;> rw [h] <;> simp

/-- The hand-over does not change who is ready. -/
@[simp] theorem State.handOver_vpReady (s : State) : s.handOver.vpReady = s.vpReady :=
  s.vpReady_setSched _ s.handOver_vpCredit

@[simp] theorem State.addCycles_bus (s : State) : s.addCycles.bus = s.bus := rfl
@[simp] theorem State.addCycles_vp (s : State) : s.addCycles.vp = s.vp := rfl
@[simp] theorem State.addCycles_cpu (s : State) :
    s.addCycles.cpu = { s.cpu with cycleCount := s.cpu.cycleCount + s.cpu.cycles } := rfl
@[simp] theorem State.addCycles_sched (s : State) :
    s.addCycles.sched = { s.sched with used := s.sched.used + s.cpu.cycles } := rfl

/-- The NMI timer touches the NMI request and its own phase only (60_exceptions R420). -/
theorem State.nmiTimer_frame (s : State) :
    ∃ b k, s.nmiTimer = (s.setNmi b).setSched { s.sched with nmiPhase := s.sched.nmiPhase + k * Config.nmiPeriod } :=
  State.nmiLoop_frame _ s

/-- What a CPU step and its accounting leave of the state that the step itself left: the counters, the NMI request and
phase, the credit, the turn and the frame's end. -/
theorem State.afterCpuStep_eq {s : State} (hf : s.cpu.fault = none) :
    ∃ b k, s.afterCpuStep = State.handOver
      { cpu := { s.cpu with cycleCount := s.cpu.cycleCount + s.cpu.cycles, nmiPending := b },
        bus := s.bus, vp := s.vp,
        sched := { s.sched with
          used := s.sched.used + s.cpu.cycles,
          nmiPhase := s.sched.nmiPhase + k * Config.nmiPeriod,
          vpCredit := if s.vp.halted then s.sched.vpCredit
                      else s.sched.vpCredit + s.cpu.cycles * Config.vpClockRatio } } := by
  obtain ⟨b, k, h⟩ := s.addCycles.nmiTimer_frame
  refine ⟨b, k, ?_⟩
  have h0 : s.afterCpuStep = s.addCycles.nmiTimer.grantCredit.handOver := by simp [State.afterCpuStep, hf]
  rw [h0, h]
  rfl

/-! The Vector Processor's run (46_vector_processor R341). -/

/-- More fuel than the budget changes nothing, since every instruction costs at least one cycle. -/
theorem vpRunLoop_fuel {n m b : Nat} (hn : b ≤ n) (hm : b ≤ m) (s : State) : vpRunLoop n b s = vpRunLoop m b s := by
  induction n generalizing m b s with
  | zero =>
    obtain rfl : b = 0 := by omega
    cases m with
    | zero => rfl
    | succ m =>
      have := s.vpCost_pos
      simp only [vpRunLoop, if_pos (show 0 < s.vpCost by omega), ite_self]
  | succ n ih =>
    have hc := s.vpCost_pos
    cases m with
    | zero =>
      obtain rfl : b = 0 := by omega
      simp only [vpRunLoop, if_pos (show 0 < s.vpCost by omega), ite_self]
    | succ m =>
      simp only [vpRunLoop]
      obtain ⟨t, ht⟩ := exec_total s.vpFetch s
      by_cases h : b < s.vpCost
      · simp only [h, if_true, ite_self]
      · simp only [ht, ih (m := m) (b := b - s.vpCost) (by omega) (by omega) t]

/-- A run does nothing when the Vector Processor is halted or its next instruction does not fit. -/
theorem vpRun_stop {b : Nat} {s : State} (h : s.vp.halted = true ∨ b < s.vpCost) : vpRun b s = (0, s) := by
  unfold vpRun
  cases b with
  | zero => rfl
  | succ b => rcases h with h | h <;> simp only [vpRunLoop, h, if_true, ite_self]

/-- Otherwise it is one instruction and the run of the rest of the budget. -/
theorem vpRun_step {b : Nat} {s : State} (h : s.vp.halted = false) (hc : s.vpCost ≤ b) :
    ∃ t, exec s.vpFetch s = .next t ∧
      vpRun b s = (s.vpCost + (vpRun (b - s.vpCost) t).1, (vpRun (b - s.vpCost) t).2) := by
  obtain ⟨t, ht⟩ := exec_total s.vpFetch s
  have hp := s.vpCost_pos
  obtain ⟨b, rfl⟩ : ∃ b', b = b' + 1 := ⟨b - 1, by omega⟩
  refine ⟨t, ht, ?_⟩
  unfold vpRun
  simp only [vpRunLoop, h, ht, Bool.false_eq_true, if_false, if_neg (show ¬ b + 1 < s.vpCost by omega)]
  rw [vpRunLoop_fuel (n := b) (m := b + 1 - s.vpCost) (by omega) (by omega)]

/-- `s` with another credit and another turn: what no instruction of the Vector Processor reads or writes. -/
def State.withCredit (s : State) (c : Nat) (w : Turn) : State := s.setSched { s.sched with vpCredit := c, turn := w }

/-- An instruction of the Vector Processor neither reads nor writes the credit and the turn. -/
theorem exec_withCredit {i : Instr} (hi : i.isa = .vp) {s t : State} (h : exec i s = .next t) (c : Nat) (w : Turn) :
    exec i (s.withCredit c w) = .next (t.withCredit c w) := by
  cases i <;> first
    | (simp only [Instr.isa, Instr.view, reduceCtorEq] at hi; done)
    | (cases h; rfl)

end Sys2Proof.Machine
end

