-- ==== Sys2Proof/Laws/Stored.lean ====
section
/-! SUPPORT. One Bus write and the pushes, said through reads: what reads back and what reads as before. -/

namespace Sys2Proof.Machine

/-- N and Z of a byte, in unsigned arithmetic (00_scope R10). -/
theorem Flags.setNZ_eq (p : Flags) (v : Byte) : p.setNZ v = p.withNZ v.toNat := by
  have h1 : v.getLsbD 7 = decide (128 ≤ v.toNat) := by revert v; decide
  have h2 : decide (v = 0) = decide (v.toNat = 0) := by revert v; decide
  simp only [Flags.setNZ, Flags.withNZ, h1, h2]

/-- Two addresses of one class are the same place when the class names a byte of a RAM. -/
theorem MemoryMap.samePlace_of_classify {m : MemoryMap} {a b : Word} (hr : (m.classify b).isRam = true)
    (h : m.classify b = m.classify a) : m.samePlace b a = true := by
  simp only [MemoryMap.samePlace, decide_eq_true_eq]
  exact .inr ⟨hr, h⟩

/-- Different places of RAM are different offsets. -/
theorem MemoryMap.classify_ne {m : MemoryMap} {a b : Word} (hb : m.samePlace b a = false) {r : Region} (hr : r.isRam = true)
    (ha : m.classify a = r) : m.classify b ≠ r := fun h => by
  rw [MemoryMap.samePlace_of_classify (h ▸ hr) (h.trans ha.symm)] at hb
  exact Bool.noConfusion hb

/-- What a Bus write makes of the machine, through reads (20_memory R102-R105, R115). -/
theorem State.write_storedByte {s : State} (hs : s.MemoryCanonical) (a : Word) (v : Byte) :
    s.StoredByte (s.write a v) a v := by
  obtain ⟨-, h1, h2, -⟩ := hs
  rcases hc : s.bus.map.classify a with k | k | k | k | k | k | _ | _ | _ | _ | _
  · have hw : s.write a v = s.setRam (s.bus.ram.set (ramIndex s.bus.outLatch k) v) := by simp only [State.write, hc]
    rw [hw]
    refine ⟨fun j _ => ?_, fun _ _ b hb => ?_, ?_, ?_, ?_, ?_, ?_, ?_, rfl, rfl, rfl⟩ <;> try simp [hc]
    · simp only [State.read, State.setRam_map, hc]
      exact Memory.get_set_self h1 _ _
    · have hne := MemoryMap.classify_ne hb (r := .ram k) rfl hc
      rcases hd : s.bus.map.classify b with j | j | j | j | j | j | _ | _ | _ | _ | _ <;>
        simp only [State.read, State.setRam_map, hd] <;> try rfl
      exact Memory.get_set_ne _ _ fun he => hne (by rw [hd, ramIndex_inj _ he])
  · have hw : s.write a v = s.setVram (s.bus.vram.set k v) := by simp only [State.write, hc]
    rw [hw]
    refine ⟨fun j _ => ?_, fun _ _ b hb => ?_, ?_, ?_, ?_, ?_, ?_, ?_, rfl, rfl, rfl⟩ <;> try simp [hc]
    · simp only [State.read, State.setVram_map, hc]
      exact Memory.get_set_self h2 _ _
    · have hne := MemoryMap.classify_ne hb (r := .vram k) rfl hc
      rcases hd : s.bus.map.classify b with j | j | j | j | j | j | _ | _ | _ | _ | _ <;>
        simp only [State.read, State.setVram_map, hd] <;> try rfl
      exact Memory.get_set_ne _ _ fun he => hne (by rw [hd, he])
  all_goals
    refine ⟨fun j hj => by simp [hc] at hj, fun _ _ b _ => ?_, ?_, ?_, ?_, ?_, ?_, ?_, ?_, ?_, ?_⟩ <;>
      simp_all [State.write, State.startVp, Config.vpStartWord, State.setVp, State.setLatch, State.setSound] <;>
      exact State.read_congr rfl rfl rfl rfl rfl rfl rfl rfl b

/-- A state that differs from the written one in the CPU's registers only holds the same stored byte. -/
theorem State.StoredByte.congr {s t u : State} {a : Word} {v : Byte} (h : s.StoredByte t a v) (hb : u.bus = t.bus)
    (hv : u.vp = t.vp) (hc : u.cpu.cycleCount = t.cpu.cycleCount) : s.StoredByte u a v := by
  have hr : ∀ b, u.read b = t.read b := fun b =>
    State.read_congr (by rw [hb]) (by rw [hb]) (by rw [hb]) (by rw [hb]) (by rw [hb]) (by rw [hb]) hc (by rw [hv]) b
  obtain ⟨h1, h2, h3, h4, h5, h6, h7, h8, h9, h10, h11⟩ := h
  exact ⟨fun k hk => (hr a).trans (h1 k hk), fun x y b z => (hr b).trans (h2 x y b z), fun x => by rw [hb, hv]; exact h3 x,
    fun x => by rw [hv]; exact h4 x, fun x => by rw [hb]; exact h5 x, fun x => by rw [hb]; exact h6 x,
    fun x => by rw [hb]; exact h7 x, fun x => by rw [hb]; exact h8 x, by rw [hb]; exact h9, by rw [hb]; exact h10,
    by rw [hb]; exact h11⟩

/-! The stack. -/

/-- Two stack slots are the same place when they are the same slot (20_memory R116). -/
theorem MemoryMap.WellFormed.samePlace_stack {m : MemoryMap} (hm : m.WellFormed) (p q : Byte) :
    m.samePlace (stackAddr p) (stackAddr q) = decide (p = q) := by
  have hp : ∀ p : Byte, (stackAddr p).toNat % 0x8000 = 0x100 + p.toNat := by decide
  simp only [MemoryMap.samePlace]
  refine decide_eq_decide.2 ⟨fun h => ?_, fun h => .inl (by rw [h])⟩
  rcases h with h | ⟨-, h⟩
  · rw [hp, hp] at h
    exact BitVec.eq_of_toNat_eq (by omega)
  · exact hm.slots p q h

/-- A write to a stack slot changes one byte of RAM (20_memory R116). -/
theorem State.write_stack {s : State} (h : s.bus.map.WellFormed) (p v : Byte) :
    ∃ k, s.bus.map.classify (stackAddr p) = .ram k ∧
      s.write (stackAddr p) v = s.setRam (s.bus.ram.set (ramIndex s.bus.outLatch k) v) := by
  obtain ⟨k, hk⟩ := h.stack p
  exact ⟨k, hk, by simp only [State.write, hk]⟩

/-- What a push makes of a state that already holds pushed bytes: one more pushed byte, at a slot of its own. -/
theorem State.Pushed.push {s t : State} {l : List (Word × Byte)} (h : s.Pushed t l) (ht : t.MemoryCanonical) (v : Byte)
    (hl : ∀ p ∈ l, s.bus.map.samePlace p.1 (stackAddr t.cpu.s) = false) :
    s.Pushed (t.push v) ((stackAddr t.cpu.s, v) :: l) := by
  obtain ⟨k, hk, he⟩ := State.write_stack ht.1 t.cpu.s v
  have hw := State.write_storedByte ht (stackAddr t.cpu.s) v
  have hr : ∀ b, (t.push v).read b = (t.write (stackAddr t.cpu.s) v).read b := fun b =>
    State.read_congr rfl rfl rfl rfl rfl rfl rfl rfl b
  have hm : s.bus.map = t.bus.map := by rw [h.bus]
  have helse : ∀ b, s.bus.map.samePlace b (stackAddr t.cpu.s) = false →
      (t.write (stackAddr t.cpu.s) v).read b = t.read b := fun b hb =>
    hw.elsewhere (by simp [hk]) (by simp [hk]) b (hm ▸ hb)
  refine ⟨fun p hp => ?_, fun b hb => ?_, ?_, ?_⟩
  · rw [hr]
    rcases List.mem_cons.1 hp with rfl | hp
    · exact hw.readBack _ (.inl hk)
    · exact (helse _ (hl p hp)).trans (h.readBack p hp)
  · rw [hr, helse _ (hb (stackAddr t.cpu.s, v) (by simp)), h.elsewhere b fun p hp => hb p (by simp [hp])]
  · rw [State.push_bus, he, State.setRam, h.bus]
  · rw [State.push_vp, he, State.setRam_vp, h.vp]

theorem State.Pushed.nil (s : State) : s.Pushed s [] := ⟨by simp, fun _ _ => rfl, rfl, rfl⟩

/-- A state that differs from the pushed one in the CPU's registers only holds the same pushed bytes; the order in which they
are listed does not matter. -/
theorem State.Pushed.congr {s t u : State} {l l' : List (Word × Byte)} (h : s.Pushed t l) (hl : ∀ p, p ∈ l' ↔ p ∈ l)
    (hb : u.bus = t.bus) (hv : u.vp = t.vp) (hc : u.cpu.cycleCount = t.cpu.cycleCount) : s.Pushed u l' := by
  have hr : ∀ b, u.read b = t.read b := fun b =>
    State.read_congr (by rw [hb]) (by rw [hb]) (by rw [hb]) (by rw [hb]) (by rw [hb]) (by rw [hb]) hc (by rw [hv]) b
  exact ⟨fun p hp => (hr _).trans (h.readBack p ((hl p).1 hp)),
    fun b hq => (hr b).trans (h.elsewhere b fun p hp => hq p ((hl p).2 hp)), by rw [hb]; exact h.bus, hv.trans h.vp⟩

/-- One push. -/
theorem State.push_pushed {s : State} (hs : s.MemoryCanonical) (v : Byte) : s.Pushed (s.push v) [(stackAddr s.cpu.s, v)] :=
  (State.Pushed.nil s).push hs v (by simp)

/-- A pushed word: the high byte at the first slot, the low byte at the next (20_memory R108). -/
theorem State.pushWord_pushed {s : State} (hs : s.MemoryCanonical) (w : Word) :
    s.Pushed (s.pushWord w) [(stackAddr s.cpu.s, hi w), (stackAddr (s.cpu.s - 1), lo w)] := by
  have hne : ∀ b : Byte, b ≠ b - 1 := by decide
  have h := (State.push_pushed hs (hi w)).push (State.push_memoryCanonical hs (hi w)) (lo w) (fun p hp => by
    rw [List.mem_singleton] at hp
    rw [hp, State.push_cpu, hs.1.samePlace_stack]
    exact decide_eq_false (hne _))
  exact h.congr (fun p => by simp [or_comm]) rfl rfl rfl

/-- Taking an exception: the return address, then the status byte (60_exceptions R413). -/
theorem State.enterVector_pushed {s : State} (hs : s.MemoryCanonical) (ret : Word) (brk : Bool) (vec : Word) :
    s.Pushed (s.enterVector ret brk vec) [(stackAddr s.cpu.s, hi ret), (stackAddr (s.cpu.s - 1), lo ret),
      (stackAddr (s.cpu.s - 2), s.cpu.p.pack brk)] := by
  have hne : ∀ b : Byte, b ≠ b - 1 - 1 ∧ b - 1 ≠ b - 1 - 1 ∧ b - 2 = b - 1 - 1 := by decide
  obtain ⟨n1, n2, e2⟩ := hne s.cpu.s
  have hc : (s.pushWord ret).cpu.s = s.cpu.s - 1 - 1 := by rw [State.pushWord_cpu]
  have hm : (s.pushWord ret).MemoryCanonical := (s.pushWord_keeps ret).memory hs
  have h := (State.pushWord_pushed hs ret).push hm (s.cpu.p.pack brk) (fun p hp => by
    simp only [List.mem_cons, List.not_mem_nil, or_false] at hp
    rcases hp with rfl | rfl <;> rw [hc, hs.1.samePlace_stack] <;> exact decide_eq_false (by assumption))
  rw [hc] at h
  rw [e2]
  exact h.congr (fun p => by simp only [List.mem_cons, List.not_mem_nil, or_false]; tauto) rfl rfl rfl

/-- A vector byte is the image's, so nothing but another image changes what it reads (20_memory R116). -/
theorem State.read_vector {s t : State} (hw : s.bus.map.WellFormed) (hm : s.bus.map = t.bus.map)
    (hr : s.bus.rom = t.bus.rom) {k : Nat} (h : k < 6) :
    s.read (BitVec.ofNat 16 (0xFFFA + k)) = t.read (BitVec.ofNat 16 (0xFFFA + k)) := by
  obtain ⟨j, hj⟩ := hw.vectors k h
  simp only [State.read, ← hm, hj, hr]

/-- The program counter that an exception's entry loads: the vector's word, which no push can change
(60_exceptions R413). -/
theorem State.enterVector_pc {s : State} (hw : s.bus.map.WellFormed) (ret : Word) (brk : Bool) {k : Nat} (h : k < 5) :
    (s.enterVector ret brk (BitVec.ofNat 16 (0xFFFA + k))).cpu.pc =
      w16 (s.read (BitVec.ofNat 16 (0xFFFA + k))) (s.read (BitVec.ofNat 16 (0xFFFA + k) + 1)) := by
  have h1 : BitVec.ofNat 16 (0xFFFA + k) + 1 = BitVec.ofNat 16 (0xFFFA + (k + 1)) := by
    rw [← Nat.add_assoc]; exact (BitVec.ofNat_add _ _).symm
  have hk := (s.pushWord_keeps ret).trans ((s.pushWord ret).push_keeps (s.cpu.p.pack brk))
  have hr : ∀ k < 6, ((s.pushWord ret).push (s.cpu.p.pack brk)).read (BitVec.ofNat 16 (0xFFFA + k)) =
      s.read (BitVec.ofNat 16 (0xFFFA + k)) := fun k h =>
    (State.read_vector hw hk.map.symm hk.rom.symm h).symm
  simp only [State.enterVector, State.setPC_pc, State.read16, h1]
  rw [← hr k (by omega), ← hr (k + 1) (by omega)]

end Sys2Proof.Machine
end

