-- ==== Sys2Proof/Tests/Slice0.lean ====
section
/-! SUPPORT. The author's tests: what the well-formedness check refuses, the decoding of a written-out word for every
constructor, one-step vectors of 95_test_vectors.md, and a witness for every statement that has hypotheses. -/

namespace Sys2Proof.Tests

open Sys2Proof Sys2Proof.Machine

/-- The start state of the CPU vectors (95_test_vectors §0): the ROM holds the three vectors only. -/
def start (a x y sp : Byte) (pc : Word) (p : Byte) (m : List (Word × Byte)) : State :=
  let cpu := { CpuState.reset with a := a, x := x, y := y, s := sp, pc := pc, p := Flags.unpack p }
  let bus := { BusState.reset with rom := ⟨[(0x1FFB, 0x71), (0x1FFD, 0x68), (0x1FFF, 0x70)]⟩ }
  m.foldl (fun s c => s.write c.1 c.2) { State.reset with cpu := cpu, bus := bus }

/-- What a vector shows of a step: A, X, Y, S and the flags, the program counter, the cycles, the fault, and the bytes at
the listed addresses. -/
def seen (o : Host.Outcome State Fault Refusal) (at_ : List Word) :
    Option (List Byte × Word × Nat × Option FaultInfo × List Byte) :=
  match o with
  | .next t => some ([t.cpu.a, t.cpu.x, t.cpu.y, t.cpu.s, t.cpu.p.pack false], t.cpu.pc, t.cpu.cycles, t.cpu.fault,
      at_.map t.read)
  | .fault _ => none
  | .refused _ => none

/-- The next state of an outcome, or `s` where there is none. -/
def after (s : State) (o : Host.Outcome State Fault Refusal) : State :=
  match o with
  | .next t => t
  | .fault _ => s
  | .refused _ => s

/-- A running Vector Processor with these words from word 0 on, and the turn (95_test_vectors §0). -/
def vpStart (words : List Word) (vp : VpState) : State :=
  let bytes := words.flatMap wordBytes
  let s := { State.reset with vp := { vp with halted := false }, sched := { SchedState.reset with turn := .vp } }
  (bytes.zipIdx.foldl (fun s b => s.write (BitVec.ofNat 16 (0x4000 + b.2)) b.1) s)

/-! Well-formedness: its one check, in both directions. -/

theorem test_vp_instruction_is_ill_formed_for_cpu : (Instr.halt 0).wellFormed .cpu = false := by decide
theorem test_cpu_instruction_is_ill_formed_for_vp : Instr.nop.wellFormed .vp = false := by decide
theorem test_each_is_well_formed_for_its_own :
    Instr.nop.wellFormed .cpu = true ∧ (Instr.halt 0).wellFormed .vp = true := by decide

/-- A machine on another board: work RAM in one row, twice as large, and the image in one row from 0x6000 on. The parameter
moves what backs an address and the size of RAM, and the vectors stay where the CPU fixes them (20_memory R111, R116). -/
def otherMap : MemoryMap :=
  { rows := [⟨0x0000, 0x07FF, .ram 0⟩, ⟨0x3000, 0x3000, .latch⟩, ⟨0x6000, 0x7FFF, .rom 0⟩], ramSize := 0x800, vramSize := 0 }
theorem test_other_map_classes :
    otherMap.classify 0x8500 = .ram 0x500 ∧ otherMap.classify 0x4000 = .unmapped ∧ otherMap.classify 0x3000 = .latch ∧
    otherMap.classify 0xFFFC = .rom 0x1FFC ∧ defaultMemoryMap.classify 0x8500 = .unmapped := by decide
theorem otherMap_stack (p : Byte) : otherMap.classify (stackAddr p) = .ram (0x100 + p.toNat) := by revert p; decide
theorem otherMap_wellFormed : otherMap.WellFormed where
  ordered := by decide
  rows := by decide
  pages := .inr (by decide)
  stack p := ⟨_, otherMap_stack p⟩
  slots p q h := by
    rw [otherMap_stack, otherMap_stack, Region.ram.injEq] at h
    exact BitVec.eq_of_toNat_eq (by omega)
  vectors k h := ⟨_, (show ∀ k < 6, otherMap.classify (BitVec.ofNat 16 (0xFFFA + k)) = .rom (0x1FFA + k) by decide) k h⟩
  vpSpace k h4 h6 := by
    rcases otherMap.regionAt_cases k with ⟨r, hr, h1, h2, -⟩ | ⟨-, h3⟩
    · simp only [otherMap, List.mem_cons, List.not_mem_nil, or_false] at hr
      rcases hr with rfl | rfl | rfl <;> simp only at h1 h2 <;> omega
    · exact .inr (.inr h3)
theorem test_other_map_write :
    let s := { State.reset with bus := { BusState.reset with map := otherMap } }
    (s.write 0x0500 0x12).read 0x8500 = 0x12 ∧ (s.write 0x3000 0x04).vp = s.vp ∧
    ((s.write 0x0250 0x12).write 0x3000 0x04).read 0x0350 = 0x12 := by decide

/-! Decoding: the word of every constructor, written out from the "Encoding" line of its mnemonic's rule (files 40 to 45)
and from 46_vector_processor R324. -/

theorem test_decode_brk :
  decode .cpu [0x00] = .ok (.brk, []) := by decide
theorem test_decode_ora :
  decode .cpu [0x01, 0x34] = .ok (.oraIndX 0x34, []) ∧ decode .cpu [0x05, 0x34] = .ok (.oraZp 0x34, []) ∧
  decode .cpu [0x09, 0x34] = .ok (.oraImm 0x34, []) ∧ decode .cpu [0x0D, 0x34, 0x12] = .ok (.oraAbs 0x1234, []) ∧
  decode .cpu [0x11, 0x34] = .ok (.oraIndY 0x34, []) ∧ decode .cpu [0x15, 0x34] = .ok (.oraZpX 0x34, []) ∧
  decode .cpu [0x19, 0x34, 0x12] = .ok (.oraAbsY 0x1234, []) ∧
  decode .cpu [0x1D, 0x34, 0x12] = .ok (.oraAbsX 0x1234, []) := by decide
theorem test_decode_asl :
  decode .cpu [0x06, 0x34] = .ok (.aslZp 0x34, []) ∧ decode .cpu [0x0A] = .ok (.aslAcc, []) ∧
  decode .cpu [0x0E, 0x34, 0x12] = .ok (.aslAbs 0x1234, []) ∧ decode .cpu [0x16, 0x34] = .ok (.aslZpX 0x34, []) ∧
  decode .cpu [0x1E, 0x34, 0x12] = .ok (.aslAbsX 0x1234, []) := by decide
theorem test_decode_php :
  decode .cpu [0x08] = .ok (.php, []) := by decide
theorem test_decode_bpl :
  decode .cpu [0x10, 0x34] = .ok (.bpl 0x34, []) := by decide
theorem test_decode_clc :
  decode .cpu [0x18] = .ok (.clc, []) := by decide
theorem test_decode_jsr :
  decode .cpu [0x20, 0x34, 0x12] = .ok (.jsr 0x1234, []) := by decide
theorem test_decode_and :
  decode .cpu [0x21, 0x34] = .ok (.andIndX 0x34, []) ∧ decode .cpu [0x25, 0x34] = .ok (.andZp 0x34, []) ∧
  decode .cpu [0x29, 0x34] = .ok (.andImm 0x34, []) ∧ decode .cpu [0x2D, 0x34, 0x12] = .ok (.andAbs 0x1234, []) ∧
  decode .cpu [0x31, 0x34] = .ok (.andIndY 0x34, []) ∧ decode .cpu [0x35, 0x34] = .ok (.andZpX 0x34, []) ∧
  decode .cpu [0x39, 0x34, 0x12] = .ok (.andAbsY 0x1234, []) ∧
  decode .cpu [0x3D, 0x34, 0x12] = .ok (.andAbsX 0x1234, []) := by decide
theorem test_decode_bit :
  decode .cpu [0x24, 0x34] = .ok (.bitZp 0x34, []) ∧
  decode .cpu [0x2C, 0x34, 0x12] = .ok (.bitAbs 0x1234, []) := by decide
theorem test_decode_rol :
  decode .cpu [0x26, 0x34] = .ok (.rolZp 0x34, []) ∧ decode .cpu [0x2A] = .ok (.rolAcc, []) ∧
  decode .cpu [0x2E, 0x34, 0x12] = .ok (.rolAbs 0x1234, []) ∧ decode .cpu [0x36, 0x34] = .ok (.rolZpX 0x34, []) ∧
  decode .cpu [0x3E, 0x34, 0x12] = .ok (.rolAbsX 0x1234, []) := by decide
theorem test_decode_plp :
  decode .cpu [0x28] = .ok (.plp, []) := by decide
theorem test_decode_bmi :
  decode .cpu [0x30, 0x34] = .ok (.bmi 0x34, []) := by decide
theorem test_decode_sec :
  decode .cpu [0x38] = .ok (.sec, []) := by decide
theorem test_decode_rti :
  decode .cpu [0x40] = .ok (.rti, []) := by decide
theorem test_decode_eor :
  decode .cpu [0x41, 0x34] = .ok (.eorIndX 0x34, []) ∧ decode .cpu [0x45, 0x34] = .ok (.eorZp 0x34, []) ∧
  decode .cpu [0x49, 0x34] = .ok (.eorImm 0x34, []) ∧ decode .cpu [0x4D, 0x34, 0x12] = .ok (.eorAbs 0x1234, []) ∧
  decode .cpu [0x51, 0x34] = .ok (.eorIndY 0x34, []) ∧ decode .cpu [0x55, 0x34] = .ok (.eorZpX 0x34, []) ∧
  decode .cpu [0x59, 0x34, 0x12] = .ok (.eorAbsY 0x1234, []) ∧
  decode .cpu [0x5D, 0x34, 0x12] = .ok (.eorAbsX 0x1234, []) := by decide
theorem test_decode_lsr :
  decode .cpu [0x46, 0x34] = .ok (.lsrZp 0x34, []) ∧ decode .cpu [0x4A] = .ok (.lsrAcc, []) ∧
  decode .cpu [0x4E, 0x34, 0x12] = .ok (.lsrAbs 0x1234, []) ∧ decode .cpu [0x56, 0x34] = .ok (.lsrZpX 0x34, []) ∧
  decode .cpu [0x5E, 0x34, 0x12] = .ok (.lsrAbsX 0x1234, []) := by decide
theorem test_decode_pha :
  decode .cpu [0x48] = .ok (.pha, []) := by decide
theorem test_decode_jmp :
  decode .cpu [0x4C, 0x34, 0x12] = .ok (.jmpAbs 0x1234, []) ∧
  decode .cpu [0x6C, 0x34, 0x12] = .ok (.jmpInd 0x1234, []) := by decide
theorem test_decode_bvc :
  decode .cpu [0x50, 0x34] = .ok (.bvc 0x34, []) := by decide
theorem test_decode_cli :
  decode .cpu [0x58] = .ok (.cli, []) := by decide
theorem test_decode_rts :
  decode .cpu [0x60] = .ok (.rts, []) := by decide
theorem test_decode_adc :
  decode .cpu [0x61, 0x34] = .ok (.adcIndX 0x34, []) ∧ decode .cpu [0x65, 0x34] = .ok (.adcZp 0x34, []) ∧
  decode .cpu [0x69, 0x34] = .ok (.adcImm 0x34, []) ∧ decode .cpu [0x6D, 0x34, 0x12] = .ok (.adcAbs 0x1234, []) ∧
  decode .cpu [0x71, 0x34] = .ok (.adcIndY 0x34, []) ∧ decode .cpu [0x75, 0x34] = .ok (.adcZpX 0x34, []) ∧
  decode .cpu [0x79, 0x34, 0x12] = .ok (.adcAbsY 0x1234, []) ∧
  decode .cpu [0x7D, 0x34, 0x12] = .ok (.adcAbsX 0x1234, []) := by decide
theorem test_decode_ror :
  decode .cpu [0x66, 0x34] = .ok (.rorZp 0x34, []) ∧ decode .cpu [0x6A] = .ok (.rorAcc, []) ∧
  decode .cpu [0x6E, 0x34, 0x12] = .ok (.rorAbs 0x1234, []) ∧ decode .cpu [0x76, 0x34] = .ok (.rorZpX 0x34, []) ∧
  decode .cpu [0x7E, 0x34, 0x12] = .ok (.rorAbsX 0x1234, []) := by decide
theorem test_decode_pla :
  decode .cpu [0x68] = .ok (.pla, []) := by decide
theorem test_decode_bvs :
  decode .cpu [0x70, 0x34] = .ok (.bvs 0x34, []) := by decide
theorem test_decode_sei :
  decode .cpu [0x78] = .ok (.sei, []) := by decide
theorem test_decode_sta :
  decode .cpu [0x81, 0x34] = .ok (.staIndX 0x34, []) ∧ decode .cpu [0x85, 0x34] = .ok (.staZp 0x34, []) ∧
  decode .cpu [0x8D, 0x34, 0x12] = .ok (.staAbs 0x1234, []) ∧ decode .cpu [0x91, 0x34] = .ok (.staIndY 0x34, []) ∧
  decode .cpu [0x95, 0x34] = .ok (.staZpX 0x34, []) ∧ decode .cpu [0x99, 0x34, 0x12] = .ok (.staAbsY 0x1234, []) ∧
  decode .cpu [0x9D, 0x34, 0x12] = .ok (.staAbsX 0x1234, []) := by decide
theorem test_decode_sty :
  decode .cpu [0x84, 0x34] = .ok (.styZp 0x34, []) ∧ decode .cpu [0x8C, 0x34, 0x12] = .ok (.styAbs 0x1234, []) ∧
  decode .cpu [0x94, 0x34] = .ok (.styZpX 0x34, []) := by decide
theorem test_decode_stx :
  decode .cpu [0x86, 0x34] = .ok (.stxZp 0x34, []) ∧ decode .cpu [0x8E, 0x34, 0x12] = .ok (.stxAbs 0x1234, []) ∧
  decode .cpu [0x96, 0x34] = .ok (.stxZpY 0x34, []) := by decide
theorem test_decode_dey :
  decode .cpu [0x88] = .ok (.dey, []) := by decide
theorem test_decode_txa :
  decode .cpu [0x8A] = .ok (.txa, []) := by decide
theorem test_decode_bcc :
  decode .cpu [0x90, 0x34] = .ok (.bcc 0x34, []) := by decide
theorem test_decode_tya :
  decode .cpu [0x98] = .ok (.tya, []) := by decide
theorem test_decode_txs :
  decode .cpu [0x9A] = .ok (.txs, []) := by decide
theorem test_decode_ldy :
  decode .cpu [0xA0, 0x34] = .ok (.ldyImm 0x34, []) ∧ decode .cpu [0xA4, 0x34] = .ok (.ldyZp 0x34, []) ∧
  decode .cpu [0xAC, 0x34, 0x12] = .ok (.ldyAbs 0x1234, []) ∧ decode .cpu [0xB4, 0x34] = .ok (.ldyZpX 0x34, []) ∧
  decode .cpu [0xBC, 0x34, 0x12] = .ok (.ldyAbsX 0x1234, []) := by decide
theorem test_decode_lda :
  decode .cpu [0xA1, 0x34] = .ok (.ldaIndX 0x34, []) ∧ decode .cpu [0xA5, 0x34] = .ok (.ldaZp 0x34, []) ∧
  decode .cpu [0xA9, 0x34] = .ok (.ldaImm 0x34, []) ∧ decode .cpu [0xAD, 0x34, 0x12] = .ok (.ldaAbs 0x1234, []) ∧
  decode .cpu [0xB1, 0x34] = .ok (.ldaIndY 0x34, []) ∧ decode .cpu [0xB5, 0x34] = .ok (.ldaZpX 0x34, []) ∧
  decode .cpu [0xB9, 0x34, 0x12] = .ok (.ldaAbsY 0x1234, []) ∧
  decode .cpu [0xBD, 0x34, 0x12] = .ok (.ldaAbsX 0x1234, []) := by decide
theorem test_decode_ldx :
  decode .cpu [0xA2, 0x34] = .ok (.ldxImm 0x34, []) ∧ decode .cpu [0xA6, 0x34] = .ok (.ldxZp 0x34, []) ∧
  decode .cpu [0xAE, 0x34, 0x12] = .ok (.ldxAbs 0x1234, []) ∧ decode .cpu [0xB6, 0x34] = .ok (.ldxZpY 0x34, []) ∧
  decode .cpu [0xBE, 0x34, 0x12] = .ok (.ldxAbsY 0x1234, []) := by decide
theorem test_decode_tay :
  decode .cpu [0xA8] = .ok (.tay, []) := by decide
theorem test_decode_tax :
  decode .cpu [0xAA] = .ok (.tax, []) := by decide
theorem test_decode_bcs :
  decode .cpu [0xB0, 0x34] = .ok (.bcs 0x34, []) := by decide
theorem test_decode_clv :
  decode .cpu [0xB8] = .ok (.clv, []) := by decide
theorem test_decode_tsx :
  decode .cpu [0xBA] = .ok (.tsx, []) := by decide
theorem test_decode_cpy :
  decode .cpu [0xC0, 0x34] = .ok (.cpyImm 0x34, []) ∧ decode .cpu [0xC4, 0x34] = .ok (.cpyZp 0x34, []) ∧
  decode .cpu [0xCC, 0x34, 0x12] = .ok (.cpyAbs 0x1234, []) := by decide
theorem test_decode_cmp :
  decode .cpu [0xC1, 0x34] = .ok (.cmpIndX 0x34, []) ∧ decode .cpu [0xC5, 0x34] = .ok (.cmpZp 0x34, []) ∧
  decode .cpu [0xC9, 0x34] = .ok (.cmpImm 0x34, []) ∧ decode .cpu [0xCD, 0x34, 0x12] = .ok (.cmpAbs 0x1234, []) ∧
  decode .cpu [0xD1, 0x34] = .ok (.cmpIndY 0x34, []) ∧ decode .cpu [0xD5, 0x34] = .ok (.cmpZpX 0x34, []) ∧
  decode .cpu [0xD9, 0x34, 0x12] = .ok (.cmpAbsY 0x1234, []) ∧
  decode .cpu [0xDD, 0x34, 0x12] = .ok (.cmpAbsX 0x1234, []) := by decide
theorem test_decode_dec :
  decode .cpu [0xC6, 0x34] = .ok (.decZp 0x34, []) ∧ decode .cpu [0xCE, 0x34, 0x12] = .ok (.decAbs 0x1234, []) ∧
  decode .cpu [0xD6, 0x34] = .ok (.decZpX 0x34, []) ∧
  decode .cpu [0xDE, 0x34, 0x12] = .ok (.decAbsX 0x1234, []) := by decide
theorem test_decode_iny :
  decode .cpu [0xC8] = .ok (.iny, []) := by decide
theorem test_decode_dex :
  decode .cpu [0xCA] = .ok (.dex, []) := by decide
theorem test_decode_bne :
  decode .cpu [0xD0, 0x34] = .ok (.bne 0x34, []) := by decide
theorem test_decode_cld :
  decode .cpu [0xD8] = .ok (.cld, []) := by decide
theorem test_decode_cpx :
  decode .cpu [0xE0, 0x34] = .ok (.cpxImm 0x34, []) ∧ decode .cpu [0xE4, 0x34] = .ok (.cpxZp 0x34, []) ∧
  decode .cpu [0xEC, 0x34, 0x12] = .ok (.cpxAbs 0x1234, []) := by decide
theorem test_decode_sbc :
  decode .cpu [0xE1, 0x34] = .ok (.sbcIndX 0x34, []) ∧ decode .cpu [0xE5, 0x34] = .ok (.sbcZp 0x34, []) ∧
  decode .cpu [0xE9, 0x34] = .ok (.sbcImm 0x34, []) ∧ decode .cpu [0xED, 0x34, 0x12] = .ok (.sbcAbs 0x1234, []) ∧
  decode .cpu [0xF1, 0x34] = .ok (.sbcIndY 0x34, []) ∧ decode .cpu [0xF5, 0x34] = .ok (.sbcZpX 0x34, []) ∧
  decode .cpu [0xF9, 0x34, 0x12] = .ok (.sbcAbsY 0x1234, []) ∧
  decode .cpu [0xFD, 0x34, 0x12] = .ok (.sbcAbsX 0x1234, []) := by decide
theorem test_decode_inc :
  decode .cpu [0xE6, 0x34] = .ok (.incZp 0x34, []) ∧ decode .cpu [0xEE, 0x34, 0x12] = .ok (.incAbs 0x1234, []) ∧
  decode .cpu [0xF6, 0x34] = .ok (.incZpX 0x34, []) ∧
  decode .cpu [0xFE, 0x34, 0x12] = .ok (.incAbsX 0x1234, []) := by decide
theorem test_decode_inx :
  decode .cpu [0xE8] = .ok (.inx, []) := by decide
theorem test_decode_nop :
  decode .cpu [0xEA] = .ok (.nop, []) := by decide
theorem test_decode_beq :
  decode .cpu [0xF0, 0x34] = .ok (.beq 0x34, []) := by decide
theorem test_decode_sed :
  decode .cpu [0xF8] = .ok (.sed, []) := by decide
/-- w0 = op, 0, ysign 1, dy 0x123; w1 = z 9, 1, xsign 0, dx 0x245. -/
theorem test_decode_vctr :
    let f : VctrFields := ⟨false, true, 0x123, 9, true, false, 0x245⟩
    decode .vp [0x23, 0x05, 0x45, 0x9A] = .ok (.vctr0 f, []) ∧ decode .vp [0x23, 0x15, 0x45, 0x9A] = .ok (.vctr1 f, []) ∧
    decode .vp [0x23, 0x25, 0x45, 0x9A] = .ok (.vctr2 f, []) ∧ decode .vp [0x23, 0x35, 0x45, 0x9A] = .ok (.vctr3 f, []) ∧
    decode .vp [0x23, 0x45, 0x45, 0x9A] = .ok (.vctr4 f, []) ∧ decode .vp [0x23, 0x55, 0x45, 0x9A] = .ok (.vctr5 f, []) ∧
    decode .vp [0x23, 0x65, 0x45, 0x9A] = .ok (.vctr6 f, []) ∧ decode .vp [0x23, 0x75, 0x45, 0x9A] = .ok (.vctr7 f, []) ∧
    decode .vp [0x23, 0x85, 0x45, 0x9A] = .ok (.vctr8 f, []) ∧ decode .vp [0x23, 0x95, 0x45, 0x9A] = .ok (.vctr9 f, []) := by
  decide
theorem test_decode_labs : decode .vp [0xFF, 0xAF, 0x00, 0x78] = .ok (.labs ⟨0xFFF, 7, 0x800⟩, []) := by decide
theorem test_decode_halt : decode .vp [0xA3, 0xB5] = .ok (.halt 0x5A3, []) := by decide
theorem test_decode_jsrl : decode .vp [0xA0, 0xC8] = .ok (.jsrl 0x8A0, []) := by decide
theorem test_decode_rtsl : decode .vp [0x0F, 0xD0] = .ok (.rtsl 0x00F, []) := by decide
theorem test_decode_jmpl : decode .vp [0x02, 0xE4] = .ok (.jmpl 0x402, []) := by decide
theorem test_decode_svec :
    decode .vp [0x73, 0xF8] = .ok (.svec ⟨true, false, 0, 7, false, false, 3⟩, []) ∧
    decode .vp [0x0F, 0xFF] = .ok (.svec ⟨true, true, 3, 0, true, true, 3⟩, []) := by decide
theorem test_decode_illegal : decode .cpu [0x80, 0, 0] = .error (.illegalOpcode 0x80) := by decide

/-- The host's two probes, on a CPU row and on a Vector Processor row of the opcode table. -/
theorem test_table_words :
    decodeTableWord 8 0xA9 = some (.ldaImm 0) ∧ decodeTableWord 16 0xB000 = some (.halt 0) ∧
    (after State.reset (step (State.reset.withFetchWord 8 0xE8))).cpu.x = 1 ∧
    (after State.reset (step (State.reset.withFetchWord 16 0xB000))).cpu.irqPending = true := by decide


/-! One CPU step: the vectors of 95_test_vectors.md, at most two for each opcode. -/

theorem test_v40_06_adc_bin :
  seen (cpuStep (start 0x50 0x00 0x00 0xFF 0x0300 0x25
      [(0x0300, 0x69), (0x0301, 0x10)])) [] =
    some ([0x61, 0x00, 0x00, 0xFF, 0x24], 0x0302, 2, none, []) := by decide
theorem test_v40_08_adc_dec :
  seen (cpuStep (start 0x58 0x00 0x00 0xFF 0x0300 0x2D
      [(0x0300, 0x69), (0x0301, 0x46)])) [] =
    some ([0x05, 0x00, 0x00, 0xFF, 0xED], 0x0302, 2, none, []) := by decide
theorem test_v40_13_adc_zp :
  seen (cpuStep (start 0x01 0x00 0x00 0xFF 0x0300 0x24
      [(0x0010, 0x02), (0x0300, 0x65), (0x0301, 0x10)])) [] =
    some ([0x03, 0x00, 0x00, 0xFF, 0x24], 0x0302, 3, none, []) := by decide
theorem test_v40_14_adc_abs_x_cross :
  seen (cpuStep (start 0x01 0x20 0x00 0xFF 0x0300 0x24
      [(0x0310, 0x05), (0x0300, 0x7D), (0x0301, 0xF0), (0x0302, 0x02)])) [] =
    some ([0x06, 0x20, 0x00, 0xFF, 0x24], 0x0303, 5, none, []) := by decide
theorem test_v40_15_adc_abs_x_nocross :
  seen (cpuStep (start 0x01 0x20 0x00 0xFF 0x0300 0x24
      [(0x0220, 0x05), (0x0300, 0x7D), (0x0301, 0x00), (0x0302, 0x02)])) [] =
    some ([0x06, 0x20, 0x00, 0xFF, 0x24], 0x0303, 4, none, []) := by decide
theorem test_v40_16_adc_zp_y_cross :
  seen (cpuStep (start 0x01 0x00 0x10 0xFF 0x0300 0x24
      [(0x0040, 0xF8), (0x0041, 0x01), (0x0208, 0x03), (0x0300, 0x71), (0x0301, 0x40)])) [] =
    some ([0x04, 0x00, 0x10, 0xFF, 0x24], 0x0302, 6, none, []) := by decide
theorem test_v40_17_sbc_bin :
  seen (cpuStep (start 0x05 0x00 0x00 0xFF 0x0300 0x25
      [(0x0300, 0xE9), (0x0301, 0x03)])) [] =
    some ([0x02, 0x00, 0x00, 0xFF, 0x25], 0x0302, 2, none, []) := by decide
theorem test_v40_18_sbc_bin :
  seen (cpuStep (start 0x00 0x00 0x00 0xFF 0x0300 0x25
      [(0x0300, 0xE9), (0x0301, 0x01)])) [] =
    some ([0xFF, 0x00, 0x00, 0xFF, 0xA4], 0x0302, 2, none, []) := by decide
theorem test_v40_26_cmp_eq :
  seen (cpuStep (start 0x40 0x00 0x00 0xFF 0x0300 0x24
      [(0x0300, 0xC9), (0x0301, 0x40)])) [] =
    some ([0x40, 0x00, 0x00, 0xFF, 0x27], 0x0302, 2, none, []) := by decide
theorem test_v40_27_cmp_lt :
  seen (cpuStep (start 0x40 0x00 0x00 0xFF 0x0300 0x24
      [(0x0300, 0xC9), (0x0301, 0x41)])) [] =
    some ([0x40, 0x00, 0x00, 0xFF, 0xA4], 0x0302, 2, none, []) := by decide
theorem test_v40_30_cpx :
  seen (cpuStep (start 0x00 0x10 0x00 0xFF 0x0300 0x24
      [(0x0300, 0xE0), (0x0301, 0x10)])) [] =
    some ([0x00, 0x10, 0x00, 0xFF, 0x27], 0x0302, 2, none, []) := by decide
theorem test_v40_31_cpy_zp :
  seen (cpuStep (start 0x00 0x00 0x00 0xFF 0x0300 0x24
      [(0x0020, 0x01), (0x0300, 0xC4), (0x0301, 0x20)])) [] =
    some ([0x00, 0x00, 0x00, 0xFF, 0xA4], 0x0302, 3, none, []) := by decide
theorem test_v40_32_inc_zp :
  seen (cpuStep (start 0x00 0x00 0x00 0xFF 0x0300 0x24
      [(0x0010, 0xFF), (0x0300, 0xE6), (0x0301, 0x10)])) [0x0010] =
    some ([0x00, 0x00, 0x00, 0xFF, 0x26], 0x0302, 5, none, [0x00]) := by decide
theorem test_v40_33_inc_zp :
  seen (cpuStep (start 0x00 0x00 0x00 0xFF 0x0300 0x24
      [(0x0010, 0x7F), (0x0300, 0xE6), (0x0301, 0x10)])) [0x0010] =
    some ([0x00, 0x00, 0x00, 0xFF, 0xA4], 0x0302, 5, none, [0x80]) := by decide
theorem test_v40_34_dec_abs :
  seen (cpuStep (start 0x00 0x00 0x00 0xFF 0x0300 0x24
      [(0x0200, 0x00), (0x0300, 0xCE), (0x0301, 0x00), (0x0302, 0x02)])) [0x0200] =
    some ([0x00, 0x00, 0x00, 0xFF, 0xA4], 0x0303, 6, none, [0xFF]) := by decide
theorem test_v40_35_dec_zp_x_wrap :
  seen (cpuStep (start 0x00 0x20 0x00 0xFF 0x0300 0x24
      [(0x0010, 0x01), (0x0300, 0xD6), (0x0301, 0xF0)])) [0x0010] =
    some ([0x00, 0x20, 0x00, 0xFF, 0x26], 0x0302, 6, none, [0x00]) := by decide
theorem test_v40_36_inc_abs_x_cross :
  seen (cpuStep (start 0x00 0x20 0x00 0xFF 0x0300 0x24
      [(0x0310, 0x05), (0x0300, 0xFE), (0x0301, 0xF0), (0x0302, 0x02)])) [0x0310] =
    some ([0x00, 0x20, 0x00, 0xFF, 0x24], 0x0303, 7, none, [0x06]) := by decide
theorem test_v40_37_inx :
  seen (cpuStep (start 0x00 0xFF 0x00 0xFF 0x0300 0x24
      [(0x0300, 0xE8)])) [] =
    some ([0x00, 0x00, 0x00, 0xFF, 0x26], 0x0301, 2, none, []) := by decide
theorem test_v40_38_iny :
  seen (cpuStep (start 0x00 0x00 0x7F 0xFF 0x0300 0x24
      [(0x0300, 0xC8)])) [] =
    some ([0x00, 0x00, 0x80, 0xFF, 0xA4], 0x0301, 2, none, []) := by decide
theorem test_v40_39_dex :
  seen (cpuStep (start 0x00 0x00 0x00 0xFF 0x0300 0x24
      [(0x0300, 0xCA)])) [] =
    some ([0x00, 0xFF, 0x00, 0xFF, 0xA4], 0x0301, 2, none, []) := by decide
theorem test_v40_40_dey :
  seen (cpuStep (start 0x00 0x00 0x01 0xFF 0x0300 0x24
      [(0x0300, 0x88)])) [] =
    some ([0x00, 0x00, 0x00, 0xFF, 0x26], 0x0301, 2, none, []) := by decide
theorem test_v41_01_and_imm :
  seen (cpuStep (start 0xF0 0x00 0x00 0xFF 0x0300 0x24
      [(0x0300, 0x29), (0x0301, 0x0F)])) [] =
    some ([0x00, 0x00, 0x00, 0xFF, 0x26], 0x0302, 2, none, []) := by decide
theorem test_v41_02_and_imm :
  seen (cpuStep (start 0xF0 0x00 0x00 0xFF 0x0300 0x24
      [(0x0300, 0x29), (0x0301, 0x81)])) [] =
    some ([0x80, 0x00, 0x00, 0xFF, 0xA4], 0x0302, 2, none, []) := by decide
theorem test_v41_03_ora_zp :
  seen (cpuStep (start 0x00 0x00 0x00 0xFF 0x0300 0x24
      [(0x0010, 0x00), (0x0300, 0x05), (0x0301, 0x10)])) [] =
    some ([0x00, 0x00, 0x00, 0xFF, 0x26], 0x0302, 3, none, []) := by decide
theorem test_v41_04_ora_imm :
  seen (cpuStep (start 0x01 0x00 0x00 0xFF 0x0300 0x24
      [(0x0300, 0x09), (0x0301, 0x80)])) [] =
    some ([0x81, 0x00, 0x00, 0xFF, 0xA4], 0x0302, 2, none, []) := by decide
theorem test_v41_05_eor_imm :
  seen (cpuStep (start 0xFF 0x00 0x00 0xFF 0x0300 0x24
      [(0x0300, 0x49), (0x0301, 0xFF)])) [] =
    some ([0x00, 0x00, 0x00, 0xFF, 0x26], 0x0302, 2, none, []) := by decide
theorem test_v41_06_eor_zp_x_ptr_wrap :
  seen (cpuStep (start 0x0F 0x01 0x00 0xFF 0x0300 0x24
      [(0x00FF, 0x00), (0x0000, 0x02), (0x0200, 0xF0), (0x0300, 0x41), (0x0301, 0xFE)])) [] =
    some ([0xFF, 0x01, 0x00, 0xFF, 0xA4], 0x0302, 6, none, []) := by decide
theorem test_v41_07_bit_zp :
  seen (cpuStep (start 0x01 0x00 0x00 0xFF 0x0300 0x24
      [(0x0010, 0xC0), (0x0300, 0x24), (0x0301, 0x10)])) [] =
    some ([0x01, 0x00, 0x00, 0xFF, 0xE6], 0x0302, 3, none, []) := by decide
theorem test_v41_08_bit_abs :
  seen (cpuStep (start 0x41 0x00 0x00 0xFF 0x0300 0x24
      [(0x0200, 0x41), (0x0300, 0x2C), (0x0301, 0x00), (0x0302, 0x02)])) [] =
    some ([0x41, 0x00, 0x00, 0xFF, 0x64], 0x0303, 4, none, []) := by decide
theorem test_v41_09_asl_a :
  seen (cpuStep (start 0x80 0x00 0x00 0xFF 0x0300 0x24
      [(0x0300, 0x0A)])) [] =
    some ([0x00, 0x00, 0x00, 0xFF, 0x27], 0x0301, 2, none, []) := by decide
theorem test_v41_10_asl_a :
  seen (cpuStep (start 0x41 0x00 0x00 0xFF 0x0300 0x25
      [(0x0300, 0x0A)])) [] =
    some ([0x82, 0x00, 0x00, 0xFF, 0xA4], 0x0301, 2, none, []) := by decide
theorem test_v41_11_asl_zp :
  seen (cpuStep (start 0x00 0x00 0x00 0xFF 0x0300 0x24
      [(0x0010, 0xC1), (0x0300, 0x06), (0x0301, 0x10)])) [0x0010] =
    some ([0x00, 0x00, 0x00, 0xFF, 0xA5], 0x0302, 5, none, [0x82]) := by decide
theorem test_v41_12_lsr_a :
  seen (cpuStep (start 0x01 0x00 0x00 0xFF 0x0300 0x24
      [(0x0300, 0x4A)])) [] =
    some ([0x00, 0x00, 0x00, 0xFF, 0x27], 0x0301, 2, none, []) := by decide
theorem test_v41_13_lsr_abs :
  seen (cpuStep (start 0x00 0x00 0x00 0xFF 0x0300 0xA4
      [(0x0200, 0x82), (0x0300, 0x4E), (0x0301, 0x00), (0x0302, 0x02)])) [0x0200] =
    some ([0x00, 0x00, 0x00, 0xFF, 0x24], 0x0303, 6, none, [0x41]) := by decide
theorem test_v41_14_rol_a :
  seen (cpuStep (start 0x80 0x00 0x00 0xFF 0x0300 0x25
      [(0x0300, 0x2A)])) [] =
    some ([0x01, 0x00, 0x00, 0xFF, 0x25], 0x0301, 2, none, []) := by decide
theorem test_v41_15_rol_a :
  seen (cpuStep (start 0x40 0x00 0x00 0xFF 0x0300 0x24
      [(0x0300, 0x2A)])) [] =
    some ([0x80, 0x00, 0x00, 0xFF, 0xA4], 0x0301, 2, none, []) := by decide
theorem test_v41_16_ror_a :
  seen (cpuStep (start 0x01 0x00 0x00 0xFF 0x0300 0x25
      [(0x0300, 0x6A)])) [] =
    some ([0x80, 0x00, 0x00, 0xFF, 0xA5], 0x0301, 2, none, []) := by decide
theorem test_v41_17_ror_zp_x :
  seen (cpuStep (start 0x00 0x01 0x00 0xFF 0x0300 0x24
      [(0x0011, 0x02), (0x0300, 0x76), (0x0301, 0x10)])) [0x0011] =
    some ([0x00, 0x01, 0x00, 0xFF, 0x24], 0x0302, 6, none, [0x01]) := by decide
theorem test_v41_18_ror_abs_x :
  seen (cpuStep (start 0x00 0x05 0x00 0xFF 0x0300 0x24
      [(0x0205, 0x00), (0x0300, 0x7E), (0x0301, 0x00), (0x0302, 0x02)])) [0x0205] =
    some ([0x00, 0x05, 0x00, 0xFF, 0x26], 0x0303, 7, none, [0x00]) := by decide
theorem test_v42_01_lda_imm :
  seen (cpuStep (start 0x55 0x00 0x00 0xFF 0x0300 0x24
      [(0x0300, 0xA9), (0x0301, 0x00)])) [] =
    some ([0x00, 0x00, 0x00, 0xFF, 0x26], 0x0302, 2, none, []) := by decide
theorem test_v42_02_lda_imm :
  seen (cpuStep (start 0x00 0x00 0x00 0xFF 0x0300 0x24
      [(0x0300, 0xA9), (0x0301, 0x80)])) [] =
    some ([0x80, 0x00, 0x00, 0xFF, 0xA4], 0x0302, 2, none, []) := by decide
theorem test_v42_03_lda_zp_x_wrap :
  seen (cpuStep (start 0x00 0x20 0x00 0xFF 0x0300 0x24
      [(0x0010, 0x7F), (0x0300, 0xB5), (0x0301, 0xF0)])) [] =
    some ([0x7F, 0x20, 0x00, 0xFF, 0x24], 0x0302, 4, none, []) := by decide
theorem test_v42_04_lda_abs_y_cross :
  seen (cpuStep (start 0x00 0x00 0x01 0xFF 0x0300 0x24
      [(0x0200, 0x00), (0x0300, 0xB9), (0x0301, 0xFF), (0x0302, 0x01)])) [] =
    some ([0x00, 0x00, 0x01, 0xFF, 0x26], 0x0303, 5, none, []) := by decide
theorem test_v42_05_lda_zp_y_nocross :
  seen (cpuStep (start 0x00 0x00 0x01 0xFF 0x0300 0x24
      [(0x0040, 0x00), (0x0041, 0x02), (0x0201, 0x33), (0x0300, 0xB1), (0x0301, 0x40)])) [] =
    some ([0x33, 0x00, 0x01, 0xFF, 0x24], 0x0302, 5, none, []) := by decide
theorem test_v42_06_lda_zp_x :
  seen (cpuStep (start 0x00 0x02 0x00 0xFF 0x0300 0x24
      [(0x0040, 0x10), (0x0041, 0x02), (0x0210, 0x99), (0x0300, 0xA1), (0x0301, 0x3E)])) [] =
    some ([0x99, 0x02, 0x00, 0xFF, 0xA4], 0x0302, 6, none, []) := by decide
theorem test_v42_07_ldx_zp_y_wrap :
  seen (cpuStep (start 0x00 0x00 0x02 0xFF 0x0300 0x24
      [(0x0001, 0x80), (0x0300, 0xB6), (0x0301, 0xFF)])) [] =
    some ([0x00, 0x80, 0x02, 0xFF, 0xA4], 0x0302, 4, none, []) := by decide
theorem test_v42_08_ldx_abs_y_cross :
  seen (cpuStep (start 0x00 0x00 0x01 0xFF 0x0300 0x24
      [(0x0200, 0x01), (0x0300, 0xBE), (0x0301, 0xFF), (0x0302, 0x01)])) [] =
    some ([0x00, 0x01, 0x01, 0xFF, 0x24], 0x0303, 5, none, []) := by decide
theorem test_v42_09_ldy_abs_x :
  seen (cpuStep (start 0x00 0x03 0x44 0xFF 0x0300 0x24
      [(0x0203, 0x00), (0x0300, 0xBC), (0x0301, 0x00), (0x0302, 0x02)])) [] =
    some ([0x00, 0x03, 0x00, 0xFF, 0x26], 0x0303, 4, none, []) := by decide
theorem test_v42_10_sta_zp :
  seen (cpuStep (start 0x00 0x00 0x00 0xFF 0x0300 0xA4
      [(0x0300, 0x85), (0x0301, 0x10)])) [0x0010] =
    some ([0x00, 0x00, 0x00, 0xFF, 0xA4], 0x0302, 3, none, [0x00]) := by decide
theorem test_v42_11_sta_abs_x_cross :
  seen (cpuStep (start 0xAB 0x20 0x00 0xFF 0x0300 0x24
      [(0x0300, 0x9D), (0x0301, 0xF0), (0x0302, 0x02)])) [0x0310] =
    some ([0xAB, 0x20, 0x00, 0xFF, 0x24], 0x0303, 5, none, [0xAB]) := by decide
theorem test_v42_12_sta_abs_y_nocross :
  seen (cpuStep (start 0xAB 0x00 0x01 0xFF 0x0300 0x24
      [(0x0300, 0x99), (0x0301, 0x00), (0x0302, 0x02)])) [0x0201] =
    some ([0xAB, 0x00, 0x01, 0xFF, 0x24], 0x0303, 5, none, [0xAB]) := by decide
theorem test_v42_13_sta_zp_y :
  seen (cpuStep (start 0x5A 0x00 0x10 0xFF 0x0300 0x24
      [(0x0040, 0xF8), (0x0041, 0x01), (0x0300, 0x91), (0x0301, 0x40)])) [0x0208] =
    some ([0x5A, 0x00, 0x10, 0xFF, 0x24], 0x0302, 6, none, [0x5A]) := by decide
theorem test_v42_14_sta_zp_x :
  seen (cpuStep (start 0x5A 0x00 0x00 0xFF 0x0300 0x24
      [(0x0020, 0x00), (0x0021, 0x02), (0x0300, 0x81), (0x0301, 0x20)])) [0x0200] =
    some ([0x5A, 0x00, 0x00, 0xFF, 0x24], 0x0302, 6, none, [0x5A]) := by decide
theorem test_v42_15_stx_zp_y :
  seen (cpuStep (start 0x00 0x77 0x01 0xFF 0x0300 0x24
      [(0x0300, 0x96), (0x0301, 0x10)])) [0x0011] =
    some ([0x00, 0x77, 0x01, 0xFF, 0x24], 0x0302, 4, none, [0x77]) := by decide
theorem test_v42_16_sty_abs :
  seen (cpuStep (start 0x00 0x00 0x66 0xFF 0x0300 0x24
      [(0x0300, 0x8C), (0x0301, 0x00), (0x0302, 0x02)])) [0x0200] =
    some ([0x00, 0x00, 0x66, 0xFF, 0x24], 0x0303, 4, none, [0x66]) := by decide
theorem test_v42_17_sta_rom_no_effect :
  seen (cpuStep (start 0x12 0x00 0x00 0xFF 0x0300 0x24
      [(0x0300, 0x8D), (0x0301, 0x00), (0x0302, 0x70)])) [] =
    some ([0x12, 0x00, 0x00, 0xFF, 0x24], 0x0303, 4, none, []) := by decide
theorem test_v42_18_sta_mirror :
  seen (cpuStep (start 0x12 0x00 0x00 0xFF 0x0300 0x24
      [(0x0300, 0x8D), (0x0301, 0x10), (0x0302, 0x80)])) [0x8010] =
    some ([0x12, 0x00, 0x00, 0xFF, 0x24], 0x0303, 4, none, [0x12]) := by decide
theorem test_v42_19_tax :
  seen (cpuStep (start 0x00 0x12 0x00 0xFF 0x0300 0x24
      [(0x0300, 0xAA)])) [] =
    some ([0x00, 0x00, 0x00, 0xFF, 0x26], 0x0301, 2, none, []) := by decide
theorem test_v42_20_tay :
  seen (cpuStep (start 0x90 0x00 0x00 0xFF 0x0300 0x24
      [(0x0300, 0xA8)])) [] =
    some ([0x90, 0x00, 0x90, 0xFF, 0xA4], 0x0301, 2, none, []) := by decide
theorem test_v42_21_txa :
  seen (cpuStep (start 0x80 0x01 0x00 0xFF 0x0300 0x24
      [(0x0300, 0x8A)])) [] =
    some ([0x01, 0x01, 0x00, 0xFF, 0x24], 0x0301, 2, none, []) := by decide
theorem test_v42_22_tya :
  seen (cpuStep (start 0x01 0x00 0x00 0xFF 0x0300 0x24
      [(0x0300, 0x98)])) [] =
    some ([0x00, 0x00, 0x00, 0xFF, 0x26], 0x0301, 2, none, []) := by decide
theorem test_v42_23_tsx :
  seen (cpuStep (start 0x00 0x00 0x00 0x80 0x0300 0x24
      [(0x0300, 0xBA)])) [] =
    some ([0x00, 0x80, 0x00, 0x80, 0xA4], 0x0301, 2, none, []) := by decide
theorem test_v42_24_txs_no_flags :
  seen (cpuStep (start 0x00 0x00 0x00 0xFF 0x0300 0x24
      [(0x0300, 0x9A)])) [] =
    some ([0x00, 0x00, 0x00, 0x00, 0x24], 0x0301, 2, none, []) := by decide
theorem test_v43_01_bne_taken :
  seen (cpuStep (start 0x00 0x00 0x00 0xFF 0x0300 0x24
      [(0x0300, 0xD0), (0x0301, 0x10)])) [] =
    some ([0x00, 0x00, 0x00, 0xFF, 0x24], 0x0312, 3, none, []) := by decide
theorem test_v43_02_bne_not_taken :
  seen (cpuStep (start 0x00 0x00 0x00 0xFF 0x0300 0x26
      [(0x0300, 0xD0), (0x0301, 0x10)])) [] =
    some ([0x00, 0x00, 0x00, 0xFF, 0x26], 0x0302, 2, none, []) := by decide
theorem test_v43_03_beq_taken_back_cross :
  seen (cpuStep (start 0x00 0x00 0x00 0xFF 0x0300 0x26
      [(0x0300, 0xF0), (0x0301, 0xF0)])) [] =
    some ([0x00, 0x00, 0x00, 0xFF, 0x26], 0x02F2, 4, none, []) := by decide
theorem test_v43_04_beq_taken_fwd_cross :
  seen (cpuStep (start 0x00 0x00 0x00 0xFF 0x02F0 0x26
      [(0x02F0, 0xF0), (0x02F1, 0x7F)])) [] =
    some ([0x00, 0x00, 0x00, 0xFF, 0x26], 0x0371, 4, none, []) := by decide
theorem test_v43_05_bcc_self_loop :
  seen (cpuStep (start 0x00 0x00 0x00 0xFF 0x0300 0x24
      [(0x0300, 0x90), (0x0301, 0xFE)])) [] =
    some ([0x00, 0x00, 0x00, 0xFF, 0x24], 0x0300, 3, none, []) := by decide
theorem test_v43_06_bcs_taken :
  seen (cpuStep (start 0x00 0x00 0x00 0xFF 0x0300 0x25
      [(0x0300, 0xB0), (0x0301, 0x00)])) [] =
    some ([0x00, 0x00, 0x00, 0xFF, 0x25], 0x0302, 3, none, []) := by decide
theorem test_v43_07_bmi_taken :
  seen (cpuStep (start 0x00 0x00 0x00 0xFF 0x0300 0xA4
      [(0x0300, 0x30), (0x0301, 0x02)])) [] =
    some ([0x00, 0x00, 0x00, 0xFF, 0xA4], 0x0304, 3, none, []) := by decide
theorem test_v43_08_bpl_not_taken :
  seen (cpuStep (start 0x00 0x00 0x00 0xFF 0x0300 0xA4
      [(0x0300, 0x10), (0x0301, 0x02)])) [] =
    some ([0x00, 0x00, 0x00, 0xFF, 0xA4], 0x0302, 2, none, []) := by decide
theorem test_v43_09_bvc_taken :
  seen (cpuStep (start 0x00 0x00 0x00 0xFF 0x0380 0x24
      [(0x0380, 0x50), (0x0381, 0x80)])) [] =
    some ([0x00, 0x00, 0x00, 0xFF, 0x24], 0x0302, 3, none, []) := by decide
theorem test_v43_10_bvs_not_taken :
  seen (cpuStep (start 0x00 0x00 0x00 0xFF 0x0300 0x24
      [(0x0300, 0x70), (0x0301, 0x80)])) [] =
    some ([0x00, 0x00, 0x00, 0xFF, 0x24], 0x0302, 2, none, []) := by decide
theorem test_v43_12_jmp_abs :
  seen (cpuStep (start 0x00 0x00 0x00 0xFF 0x0300 0x24
      [(0x0300, 0x4C), (0x0301, 0x34), (0x0302, 0x12)])) [] =
    some ([0x00, 0x00, 0x00, 0xFF, 0x24], 0x1234, 3, none, []) := by decide
theorem test_v43_13_jmp_ind :
  seen (cpuStep (start 0x00 0x00 0x00 0xFF 0x0300 0x24
      [(0x0020, 0x00), (0x0021, 0x02), (0x0300, 0x6C), (0x0301, 0x20), (0x0302, 0x00)])) [] =
    some ([0x00, 0x00, 0x00, 0xFF, 0x24], 0x0200, 5, none, []) := by decide
theorem test_v43_14_jmp_ind_page_bug :
  seen (cpuStep (start 0x00 0x00 0x00 0xFF 0x0300 0x24
      [(0x02FF, 0x40), (0x0200, 0x03), (0x0300, 0x6C), (0x0300, 0x6C), (0x0301, 0xFF), (0x0302, 0x02)])) [] =
    some ([0x00, 0x00, 0x00, 0xFF, 0x24], 0x0340, 5, none, []) := by decide
theorem test_v43_15_jsr :
  seen (cpuStep (start 0x00 0x00 0x00 0xFF 0x0300 0x24
      [(0x0300, 0x20), (0x0301, 0x20), (0x0302, 0x03)])) [0x01FF, 0x01FE] =
    some ([0x00, 0x00, 0x00, 0xFD, 0x24], 0x0320, 6, none, [0x03, 0x02]) := by decide
theorem test_v43_16_jsr_s_wrap :
  seen (cpuStep (start 0x00 0x00 0x00 0x00 0x0300 0x24
      [(0x0300, 0x20), (0x0301, 0x20), (0x0302, 0x03)])) [0x0100, 0x01FF] =
    some ([0x00, 0x00, 0x00, 0xFE, 0x24], 0x0320, 6, none, [0x03, 0x02]) := by decide
theorem test_v43_17_rts :
  seen (cpuStep (start 0x00 0x00 0x00 0xFD 0x0300 0x24
      [(0x01FE, 0x02), (0x01FF, 0x03), (0x0300, 0x60)])) [] =
    some ([0x00, 0x00, 0x00, 0xFF, 0x24], 0x0303, 6, none, []) := by decide
theorem test_v43_18_rts_wrap :
  seen (cpuStep (start 0x00 0x00 0x00 0xFF 0x0300 0x24
      [(0x0100, 0xFF), (0x0101, 0x12), (0x0300, 0x60)])) [] =
    some ([0x00, 0x00, 0x00, 0x01, 0x24], 0x1300, 6, none, []) := by decide
theorem test_v43_19_brk :
  seen (cpuStep (start 0x00 0x00 0x00 0xFF 0x0300 0x21
      [(0x0300, 0x00), (0x0301, 0xEA)])) [0x01FF, 0x01FE, 0x01FD] =
    some ([0x00, 0x00, 0x00, 0xFC, 0x25], 0x7000, 7, none, [0x03, 0x02, 0x31]) := by decide
theorem test_v43_20_rti :
  seen (cpuStep (start 0x00 0x00 0x00 0xFC 0x0300 0x24
      [(0x01FD, 0xC3), (0x01FE, 0x02), (0x01FF, 0x04), (0x0300, 0x40)])) [] =
    some ([0x00, 0x00, 0x00, 0xFF, 0xE3], 0x0402, 6, none, []) := by decide
theorem test_v43_21_nop :
  seen (cpuStep (start 0x00 0x00 0x00 0xFF 0x0300 0x24
      [(0x0300, 0xEA)])) [] =
    some ([0x00, 0x00, 0x00, 0xFF, 0x24], 0x0301, 2, none, []) := by decide
theorem test_v44_01_pha :
  seen (cpuStep (start 0x5A 0x00 0x00 0xFF 0x0300 0x24
      [(0x0300, 0x48)])) [0x01FF] =
    some ([0x5A, 0x00, 0x00, 0xFE, 0x24], 0x0301, 3, none, [0x5A]) := by decide
theorem test_v44_02_pha_wrap :
  seen (cpuStep (start 0x5A 0x00 0x00 0x00 0x0300 0x24
      [(0x0300, 0x48)])) [0x0100] =
    some ([0x5A, 0x00, 0x00, 0xFF, 0x24], 0x0301, 3, none, [0x5A]) := by decide
theorem test_v44_03_php :
  seen (cpuStep (start 0x00 0x00 0x00 0xFF 0x0300 0xA3
      [(0x0300, 0x08)])) [0x01FF] =
    some ([0x00, 0x00, 0x00, 0xFE, 0xA3], 0x0301, 3, none, [0xB3]) := by decide
theorem test_v44_04_php :
  seen (cpuStep (start 0x00 0x00 0x00 0xFF 0x0300 0xAF
      [(0x0300, 0x08)])) [0x01FF] =
    some ([0x00, 0x00, 0x00, 0xFE, 0xAF], 0x0301, 3, none, [0xBF]) := by decide
theorem test_v44_05_pla :
  seen (cpuStep (start 0x33 0x00 0x00 0xFE 0x0300 0x24
      [(0x01FF, 0x00), (0x0300, 0x68)])) [] =
    some ([0x00, 0x00, 0x00, 0xFF, 0x26], 0x0301, 4, none, []) := by decide
theorem test_v44_06_pla_wrap :
  seen (cpuStep (start 0x00 0x00 0x00 0xFF 0x0300 0x24
      [(0x0100, 0x80), (0x0300, 0x68)])) [] =
    some ([0x80, 0x00, 0x00, 0x00, 0xA4], 0x0301, 4, none, []) := by decide
theorem test_v44_07_plp :
  seen (cpuStep (start 0x00 0x00 0x00 0xFE 0x0300 0x24
      [(0x01FF, 0xFF), (0x0300, 0x28)])) [] =
    some ([0x00, 0x00, 0x00, 0xFF, 0xEF], 0x0301, 4, none, []) := by decide
theorem test_v44_08_plp :
  seen (cpuStep (start 0x00 0x00 0x00 0xFE 0x0300 0x24
      [(0x01FF, 0x00), (0x0300, 0x28)])) [] =
    some ([0x00, 0x00, 0x00, 0xFF, 0x20], 0x0301, 4, none, []) := by decide
theorem test_v45_01_clc :
  seen (cpuStep (start 0x00 0x00 0x00 0xFF 0x0300 0x25
      [(0x0300, 0x18)])) [] =
    some ([0x00, 0x00, 0x00, 0xFF, 0x24], 0x0301, 2, none, []) := by decide
theorem test_v45_02_sec :
  seen (cpuStep (start 0x00 0x00 0x00 0xFF 0x0300 0x24
      [(0x0300, 0x38)])) [] =
    some ([0x00, 0x00, 0x00, 0xFF, 0x25], 0x0301, 2, none, []) := by decide
theorem test_v45_03_cli :
  seen (cpuStep (start 0x00 0x00 0x00 0xFF 0x0300 0x24
      [(0x0300, 0x58)])) [] =
    some ([0x00, 0x00, 0x00, 0xFF, 0x20], 0x0301, 2, none, []) := by decide
theorem test_v45_04_sei :
  seen (cpuStep (start 0x00 0x00 0x00 0xFF 0x0300 0x20
      [(0x0300, 0x78)])) [] =
    some ([0x00, 0x00, 0x00, 0xFF, 0x24], 0x0301, 2, none, []) := by decide
theorem test_v45_05_cld :
  seen (cpuStep (start 0x00 0x00 0x00 0xFF 0x0300 0x2C
      [(0x0300, 0xD8)])) [] =
    some ([0x00, 0x00, 0x00, 0xFF, 0x24], 0x0301, 2, none, []) := by decide
theorem test_v45_06_sed :
  seen (cpuStep (start 0x00 0x00 0x00 0xFF 0x0300 0x24
      [(0x0300, 0xF8)])) [] =
    some ([0x00, 0x00, 0x00, 0xFF, 0x2C], 0x0301, 2, none, []) := by decide
theorem test_v45_07_clv :
  seen (cpuStep (start 0x00 0x00 0x00 0xFF 0x0300 0x64
      [(0x0300, 0xB8)])) [] =
    some ([0x00, 0x00, 0x00, 0xFF, 0x24], 0x0301, 2, none, []) := by decide
theorem test_v60_01_illegal_02 :
  seen (cpuStep (start 0x00 0x00 0x00 0xFF 0x0300 0x24
      [(0x0300, 0x02)])) [] =
    some ([0x00, 0x00, 0x00, 0xFF, 0x24], 0x0300, 0, some ⟨0x0300, 0x02⟩, []) := by decide
theorem test_v60_02_illegal_ff :
  seen (cpuStep (start 0x12 0x00 0x00 0xFF 0x0300 0x24
      [(0x0300, 0xFF)])) [] =
    some ([0x12, 0x00, 0x00, 0xFF, 0x24], 0x0300, 0, some ⟨0x0300, 0xFF⟩, []) := by decide
theorem test_v60_03_illegal_80 :
  seen (cpuStep (start 0x00 0x00 0x00 0xFF 0x0300 0x24
      [(0x0300, 0x80), (0x0301, 0x00)])) [] =
    some ([0x00, 0x00, 0x00, 0xFF, 0x24], 0x0300, 0, some ⟨0x0300, 0x80⟩, []) := by decide

/-! Interrupts, timers and the Bus (95_test_vectors §3.2). -/

/-- T1: the IRQ entry pushes 0x0300 and 0x21 and goes to 0x7000. -/
theorem test_t1_irq_entry :
    let s := (start 0 0 0 0xFF 0x0300 0x21 [(0x0300, 0xEA)]).setIrq true
    seen (cpuStep s) [0x01FF, 0x01FE, 0x01FD] = some ([0, 0, 0, 0xFC, 0x25], 0x7000, 7, none, [0x03, 0x00, 0x21]) ∧
    (after s (cpuStep s)).cpu.irqPending = false := by decide

/-- T2: a masked IRQ waits. -/
theorem test_t2_masked_irq :
    let s := (start 0 0 0 0xFF 0x0300 0x24 [(0x0300, 0xEA)]).setIrq true
    seen (cpuStep s) [] = some ([0, 0, 0, 0xFF, 0x24], 0x0301, 2, none, []) ∧
    (after s (cpuStep s)).cpu.irqPending = true := by decide

/-- T3: the NMI goes first, and the IRQ stays pending. -/
theorem test_t3_nmi_first :
    let s := ((start 0 0 0 0xFF 0x0300 0x20 [(0x0300, 0xEA)]).setIrq true).setNmi true
    seen (cpuStep s) [0x01FF, 0x01FE, 0x01FD] = some ([0, 0, 0, 0xFC, 0x24], 0x7100, 7, none, [0x03, 0x00, 0x20]) ∧
    (after s (cpuStep s)).cpu.irqPending = true ∧ (after s (cpuStep s)).cpu.nmiPending = false := by decide

/-- T5: the NMI request comes with the step that brings the total to the phase. -/
theorem test_t5_nmi_timer :
    let s := (start 0 0 0 0xFF 0x0300 0x24 [(0x0300, 0xAD), (0x0301, 0x00), (0x0302, 0x02)]).setCycleCount 6140
    (after s (step s)).cpu.cycleCount = 6144 ∧ (after s (step s)).cpu.nmiPending = true ∧
    (after s (step s)).sched.nmiPhase = 12288 := by decide

/-- T5c: not before. -/
theorem test_t5c_nmi_timer :
    let s := (start 0 0 0 0xFF 0x0300 0x24 [(0x0300, 0xEA)]).setCycleCount 6141
    (after s (step s)).cpu.cycleCount = 6143 ∧ (after s (step s)).cpu.nmiPending = false := by decide

/-- T7: IN0 line 1 is bit 8 of `cycleCount`, over the open bus. -/
theorem test_t7_clock_line :
    ((start 0 0 0 0xFF 0x0300 0x24 []).setCycleCount 0x100).read 0x2001 = 0x80 ||| (Config.openBus 0x2001 &&& 0x7F) := rfl

/-- T9: a sound write is an event. -/
theorem test_t9_sound_event :
    let s := start 0x15 0 0 0xFF 0x0300 0x24 [(0x0300, 0x8D), (0x0301, 0x00), (0x0302, 0x3A)]
    (after s (step s)).bus.soundEvents = [⟨0x3A00, 0x15⟩] := by decide

/-- T10: an unmapped read is the open bus. -/
theorem test_t10_open_bus : (start 0 0 0 0xFF 0x0300 0x24 []).read 0x1000 = Config.openBus 0x1000 := rfl

/-- T12: an image of another length is refused. -/
theorem test_t12_load_fault : powerOn defaultMemoryMap (List.replicate 8191 0) Draws.zero = .error (.loadFault 8191) := by
  rw [powerOn, List.length_replicate]
  rfl

theorem imageCells_zeros (n k : Nat) : imageCells k (List.replicate n 0) = [] := by
  induction n generalizing k with
  | zero => rfl
  | succ n ih => exact ih (k + 1)

/-- `State.reset` is the power-on of a blank image with every draw 0 (notes/assumptions 1, 2 and 3). -/
theorem test_reset_is_powerOn : powerOn defaultMemoryMap (List.replicate 8192 0) Draws.zero = .ok State.reset := by
  rw [powerOn, List.length_replicate, State.loaded, imageCells_zeros]
  rfl

/-! The Vector Processor (95_test_vectors §3.1). -/

/-- V46-01 and V46-02: a full-scale vector, and an effective scale above 9. -/
theorem test_v46_01_vctr :
    let s := vpStart [0x9500, 0xF200] VpState.reset
    (after s (exec s.vpFetch s)).vp.vx = Config.vpCoordPolicy 524288 ∧
    (after s (exec s.vpFetch s)).vp.vy = Config.vpCoordPolicy (-262144) := ⟨rfl, rfl⟩
theorem test_v46_02_vctr_scale :
    let s := vpStart [0x9001, 0x1001] { VpState.reset with vscale := 1 }
    (after s (exec s.vpFetch s)).sched.segments = [⟨0, 0, Config.vpCoordPolicy 1, Config.vpCoordPolicy 1, 1⟩] := rfl

/-- V46-07: LABS reads two's complement. -/
theorem test_v46_07_labs :
    let s := vpStart [0xAFFF, 0x7800] { VpState.reset with vx := 5, vy := 6 }
    (after s (exec s.vpFetch s)).sched.segments =
      [⟨5, 6, Config.vpCoordPolicy (-2097152), Config.vpCoordPolicy (-1024), 0⟩] ∧
    (after s (exec s.vpFetch s)).vp.vscale = 7 := ⟨rfl, rfl⟩

/-- V46-08: HALT. -/
theorem test_v46_08_halt :
    let s := vpStart [0xB000] VpState.reset
    (after s (step s)).vp.halted = true ∧ (after s (step s)).cpu.irqPending = true ∧
    (after s (step s)).vp.vpc = 0 := by decide

/-- V46-09 and V46-14: JSRL, and the entry it overwrites when the stack is full. -/
theorem test_v46_09_jsrl :
    let s := vpStart [0xC8A0] VpState.reset
    (after s (exec s.vpFetch s)).vp.vstack = ⟨0x001, 0, 0, 0⟩ ∧ (after s (exec s.vpFetch s)).vp.vsp = 1 ∧
    (after s (exec s.vpFetch s)).vp.vpc = 0x8A0 := by decide
theorem test_v46_14_jsrl_overflow :
    let s := vpStart [0, 0, 0, 0, 0xC005] { VpState.reset with vpc := 4, vstack := ⟨1, 2, 3, 4⟩ }
    (after s (exec s.vpFetch s)).vp.vstack = ⟨5, 2, 3, 4⟩ ∧ (after s (exec s.vpFetch s)).vp.vsp = 1 := by decide

/-- V46-11: RTSL underflow reads the stale entry 3. -/
theorem test_v46_11_rtsl :
    let s := vpStart [0xD000] { VpState.reset with vstack := ⟨0x011, 0x022, 0x033, 0x044⟩ }
    (after s (exec s.vpFetch s)).vp.vpc = 0x044 ∧ (after s (exec s.vpFetch s)).vp.vsp = 3 := by decide

/-- V46-12: JMPL. -/
theorem test_v46_12_jmpl :
    let s := vpStart [0xE402] VpState.reset
    (after s (exec s.vpFetch s)).vp.vpc = 0x402 := by decide

/-- V46-17 and V46-18: SVEC. -/
theorem test_v46_17_svec :
    let s := vpStart [0xF873] VpState.reset
    (after s (exec s.vpFetch s)).vp.vx = Config.vpCoordPolicy 12288 ∧ (after s (exec s.vpFetch s)).vp.vpc = 1 :=
  ⟨rfl, rfl⟩
theorem test_v46_18_svec :
    let s := vpStart [0xFF0F] VpState.reset
    (after s (exec s.vpFetch s)).vp.vy = Config.vpCoordPolicy (-49152) := rfl

/-! Witnesses: for each statement with hypotheses, a concrete state and operands that meet them, one for each clause. The
states are canonical, as the last theorem says of the one most of them use. -/

/-- The state most witnesses use: every flag set, one byte of code, a word at 0x0010 and a byte at 0x0200. -/
def w : State := start 0x99 0x10 0x20 0x00 0x0300 0xFF [(0x0010, 0x00), (0x0011, 0x02), (0x0200, 0x80), (0x0300, 0xEA)]

/-- The same with every flag clear. -/
def v : State := start 0x7F 0xFF 0xFF 0xFF 0x0300 0x20 [(0x0010, 0x00), (0x0011, 0x02), (0x0200, 0x01), (0x0300, 0xEA)]

theorem witness_canonical : w.MemoryCanonical ∧ v.MemoryCanonical :=
  ⟨⟨defaultMemoryMap_wellFormed, by decide, by decide, by decide⟩,
   ⟨defaultMemoryMap_wellFormed, by decide, by decide, by decide⟩⟩

theorem witness_DecodeOfEncoded :
    (Instr.jmpInd 0xFFFF).wellFormed .cpu = true ∧ (Instr.jsrl 0xFFF).wellFormed .vp = true := by decide
theorem witness_EncodeOfDecoded :
    decode .cpu [0x6C, 0xFF, 0xFF, 0x07] = .ok (.jmpInd 0xFFFF, [0x07]) ∧
    decode .vp [0xFF, 0xCF, 0x07] = .ok (.jsrl 0xFFF, [0x07]) := by decide
theorem witness_IllegalOpcodes :
    0x02 ∈ illegalOpcodes ∧ 0xFF ∈ illegalOpcodes ∧ 0x00 ∉ illegalOpcodes ∧ 0xFE ∉ illegalOpcodes := by decide
theorem witness_CpuStepRunsDecoded :
    w.cpu.fault = none ∧ w.sched.turn = .cpu ∧ w.cpu.nmiPending = false ∧ w.cpu.irqPending = false ∧
    decode .cpu w.beginFrame.fetchBytes = .ok (.nop, [0x00, 0x00]) := by decide
theorem witness_CpuStepRunsDecoded_masked :
    (w.setIrq true).cpu.p.i = true ∧ decode .cpu (w.setIrq true).beginFrame.fetchBytes = .ok (.nop, [0x00, 0x00]) := by
  decide
/-- A running Vector Processor whose credit is exactly its instruction's cost, in an open frame. -/
def vpReadyState : State :=
  let s := vpStart [0xF873] VpState.reset
  s.setSched { s.sched with vpCredit := s.vpCost, budget := 25200, frameOpen := true }
theorem witness_VpStepRunsDecoded :
    vpReadyState.SchedulerOk ∧ vpReadyState.cpu.fault = none ∧ vpReadyState.sched.turn = .vp := by
  have hr : vpReadyState.vpReady = true := Bool.and_eq_true _ _ ▸ ⟨rfl, decide_eq_true (Nat.le_refl _)⟩
  exact ⟨⟨iff_of_true rfl hr, fun h => Bool.noConfusion h, fun _ => rfl, fun _ _ => Nat.succ_pos _, Nat.zero_le _,
    Nat.zero_le _⟩, rfl, rfl⟩
theorem witness_InterruptEntry :
    (w.setNmi true).cpu.nmiPending = true ∧ (v.setIrq true).cpu.nmiPending = false ∧
    (v.setIrq true).cpu.irqPending = true ∧ (v.setIrq true).cpu.p.i = false ∧ v.cpu.irqPending = false ∧
    (w.setIrq true).cpu.irqPending = true ∧ (w.setIrq true).cpu.p.i = true := by decide
theorem witness_DecodeFault :
    let s := start 0 0 0 0xFF 0x0300 0x24 [(0x0300, 0xFF)]
    s.cpu.fault = none ∧ s.sched.turn = .cpu ∧ s.cpu.nmiPending = false ∧ s.cpu.irqPending = false ∧
    s.beginFrame.read s.cpu.pc = 0xFF ∧ 0xFF ∈ illegalOpcodes ∧ s.beginFrame.sched.used < s.beginFrame.sched.budget := by
  decide
theorem witness_PowerOn :
    (List.replicate 8191 (0 : Byte)).length ≠ 8192 ∧ (List.replicate 8192 (0 : Byte)).length = 8192 := by
  simp only [List.length_replicate, ne_eq, Nat.reduceEqDiff, not_false_eq_true, and_self]
theorem witness_InvariantsAtReset :
    defaultMemoryMap.WellFormed ∧ (List.replicate 8192 (0x4C : Byte)).length = 8192 ∧
    (Memory.mk [(0x000, 0x01), (0x3FF, 0xFF)]).wf defaultMemoryMap.ramSize ∧
    (Memory.mk [(0x000, 0x01), (0x7FF, 0xFF)]).wf defaultMemoryMap.vramSize :=
  ⟨defaultMemoryMap_wellFormed, List.length_replicate .., by decide, by decide⟩
theorem witness_StepKeepsMemoryCanonical :
    w.MemoryCanonical ∧ step w = .next (after w (step w)) := ⟨witness_canonical.1, rfl⟩
theorem witness_StepKeepsSchedulerOk :
    w.MemoryCanonical ∧ w.SchedulerOk ∧ step w = .next (after w (step w)) :=
  ⟨witness_canonical.1, ⟨by decide, by decide, by decide, by decide, by decide, by decide⟩, rfl⟩
theorem witness_StepKeepsNmiTimerOk :
    w.NmiTimerOk ∧ step w = .next (after w (step w)) := ⟨⟨by decide, by decide, by decide⟩, rfl⟩
/-- The first clause at a state in the middle of a frame, the second at one that opens a frame with a snapshot queued, and at
one whose step makes a sound event while an old one is in the list. -/
theorem witness_FrameOutputs :
    (after w (step w)).sched.frameOpen = true ∧
    step (after w (step w)) = .next (after w (step (after w (step w)))) ∧
    w.sched.frameOpen = false ∧ w.sched.turn = .cpu ∧
    (w.setSched { w.sched with pendingInputs := [Inputs.idle] }).sched.pendingInputs = Inputs.idle :: [] ∧
    w.MemoryCanonical := ⟨rfl, rfl, rfl, rfl, rfl, witness_canonical.1⟩
theorem witness_FrameOutputs_sound :
    let s := (start 0x15 0 0 0xFF 0x0300 0x24 [(0x0300, 0x8D), (0x0301, 0x00), (0x0302, 0x3A)]).setSound [⟨0x3600, 1⟩]
    s.sched.frameOpen = false ∧ s.sched.turn = .cpu ∧ step s = .next (after s (step s)) ∧
    (after s (step s)).bus.soundEvents = [⟨0x3A00, 0x15⟩] := ⟨rfl, rfl, rfl, rfl⟩
theorem witness_RamReadsBack :
    w.bus.map.classify 0x0000 = .ram 0 ∧ w.bus.map.classify 0x03FF = .ram 0x3FF ∧ w.bus.map.classify 0x4000 = .vram 0 ∧
    w.bus.map.classify 0xC7FF = .vram 0x7FF ∧ w.bus.map.samePlace 0x0001 0x0000 = false := by decide
/-- Most states of this file have the default map. -/
theorem witness_defaultMap : w.bus.map = defaultMemoryMap ∧ v.bus.map = defaultMemoryMap := ⟨rfl, rfl⟩
theorem witness_RomAccess :
    w.bus.map = defaultMemoryMap ∧ w.bus.map.classify 0xFFFF = .rom 0x1FFF ∧
    0x5000 ≤ (0x5000 : Word).toNat % 0x8000 ∧ (0xD7FF : Word).toNat % 0x8000 ≤ 0x57FF ∧
    0x6800 ≤ (0x6800 : Word).toNat % 0x8000 ∧ 0x6800 ≤ (0xFFFF : Word).toNat % 0x8000 ∧
    step w = .next (after w (step w)) := ⟨rfl, by decide, by decide, by decide, by decide, by decide, rfl⟩
/-- The default map and another one are well formed; an address in a row of each, and one in none. -/
theorem witness_AddressMap :
    defaultMemoryMap.WellFormed ∧ otherMap.WellFormed ∧ (⟨0x6000, 0x7FFF, .rom 0⟩ : MapRow) ∈ otherMap.rows ∧
    (∀ r ∈ otherMap.rows, 0x4000 < r.first ∨ r.last < 0x4000) ∧
    0x6800 = (0xE800 : Word).toNat % 0x8000 ∧ 0x67FF = (0x67FF : Word).toNat % 0x8000 :=
  ⟨defaultMemoryMap_wellFormed, otherMap_wellFormed, by decide, by decide, by decide, by decide⟩
theorem witness_OpenBus :
    w.bus.map.classify 0x0400 = .unmapped ∧ w.bus.map.classify 0xE7FF = .unmapped ∧ w.bus.map.classify 0x3000 = .dmago ∧
    w.bus.map.classify 0x3200 = .latch ∧ w.bus.map.classify 0x3400 = .watchdog ∧ w.bus.map.classify 0x3C07 = .sound ∧
    w.bus.map.classify 0x2000 = .in0 0 ∧ w.bus.map.classify 0x2407 = .in1 7 ∧ w.bus.map.classify 0x2803 = .dsw 3 ∧
    (0x67FF : Word).toNat = (0xE7FF : Word).toNat % 0x8000 := by decide
theorem witness_Mirror :
    w.bus.map = defaultMemoryMap ∧ 0x8000 ≤ (0x8000 : Word).toNat ∧ 0x8000 ≤ (0xFFFF : Word).toNat ∧ 0 < 6 ∧ 5 < 6 := by
  decide
theorem witness_RamPageSwap :
    (w.setLatch 0x04).bus.map = defaultMemoryMap ∧ (w.setLatch 0xFB).bus.map = defaultMemoryMap ∧
    (w.setLatch 0x04).bus.outLatch.getLsbD 2 = true ∧ (w.setLatch 0xFB).bus.outLatch.getLsbD 2 = false ∧ 255 < 256 := by
  decide
/-- Line 7 of IN1 is rotate-left, line 7 of IN0 is not in the snapshot, and DSW 3 is the last of four. -/
theorem witness_SwitchReads :
    w.bus.map = defaultMemoryMap ∧ 7 < 8 ∧ w.in0Line 7 = false ∧ w.in1Line 7 = w.bus.snapshot.rotateLeft ∧ 3 < 4 := by decide
theorem witness_DeviceWrites :
    w.bus.map = defaultMemoryMap ∧ (0x3C00 : Word).toNat = 0x3C00 ∧ (0x3C07 : Word).toNat ≤ 0x3C07 := by decide
theorem witness_VpWords :
    w.bus.map = defaultMemoryMap ∧ (0x3FF : VAddr).toNat < 0x400 ∧ 0x800 ≤ (0x800 : VAddr).toNat ∧ (0xBFF : VAddr).toNat < 0xC00 ∧
    0x400 ≤ (0x400 : VAddr).toNat ∧ (0x7FF : VAddr).toNat < 0x800 ∧ 0xC00 ≤ (0xC00 : VAddr).toNat := by decide
theorem witness_EffectiveAddresses (s : State) : ∃ pointer : Nat → Nat, ∀ p,
    pointer p = (s.read (BitVec.ofNat 16 p)).toNat + 256 * (s.read (BitVec.ofNat 16 ((p + 1) % 256))).toNat :=
  ⟨_, fun _ => rfl⟩
/-- The premises of the decimal clause at the digits where both corrections act: 0x99 plus 0x99 plus the carry. -/
theorem witness_AdcRule :
    (Instr.adcImm 0x99).view = .cpu .adc (.src (.imm 0x99)) ∧ (Instr.adcIndY 0x10).view = .cpu .adc (.src (.mem (.indy 0x10))) ∧
    v.cpu.p.d = false ∧ w.cpu.p.d = true ∧ w.cpu.p.c.toNat = 1 ∧ w.cpu.a.toNat = 0x99 ∧
    (0x19 : Nat) = (if 0x0A ≤ 0x99 % 16 + 0x99 % 16 + 1 then (0x99 % 16 + 0x99 % 16 + 1 + 0x06) % 16 + 0x10
                    else 0x99 % 16 + 0x99 % 16 + 1) := by decide
theorem witness_SbcRule :
    (Instr.sbcImm 0x99).view = .cpu .sbc (.src (.imm 0x99)) ∧ (Instr.sbcAbs 0x0200).view = .cpu .sbc (.src (.mem (.abs 0x0200))) ∧
    (0x7F % 16 : Nat) - (0x01 % 16 : Nat) + ((0 : Nat) : Int) - 1 = 13 ∧ v.cpu.p.d = false ∧ w.cpu.p.d = true := by decide
theorem witness_BcdValues :
    isBcd 0x00 = true ∧ isBcd 0x99 = true ∧ w.cpu.p.d = true ∧ w.cpu.p.c = true := by decide
theorem witness_CompareRules :
    (Instr.cmpIndX 0xF0).view = .cpu .cmp (.src (.mem (.indx 0xF0))) ∧ (Instr.cpxImm 0).view = .cpu .cpx (.src (.imm 0)) ∧
    (Instr.cpyAbs 0xFFFF).view = .cpu .cpy (.src (.mem (.abs 0xFFFF))) := by decide
theorem witness_IncDecRules :
    (Instr.incAbsX 0xFFFF).view = .cpu .inc (.src (.mem (.absx 0xFFFF))) ∧
    (Instr.decZpX 0xFF).view = .cpu .dec (.src (.mem (.zpx 0xFF))) := by decide
theorem witness_RegisterCountRules :
    Instr.inx.view = .cpu .inx .imp ∧ Instr.iny.view = .cpu .iny .imp ∧ Instr.dex.view = .cpu .dex .imp ∧
    Instr.dey.view = .cpu .dey .imp := by decide
theorem witness_LogicRules :
    (Instr.andImm 0).view = .cpu .and (.src (.imm 0)) ∧ (Instr.oraIndY 0xFF).view = .cpu .ora (.src (.mem (.indy 0xFF))) ∧
    (Instr.eorZp 0xFF).view = .cpu .eor (.src (.mem (.zp 0xFF))) := by decide
theorem witness_BitRule : (Instr.bitAbs 0x0200).view = .cpu .bit (.src (.mem (.abs 0x0200))) ∧ w.read 0x0200 = 0x80 := by
  decide
theorem witness_ShiftRules :
    Instr.aslAcc.view = .cpu .asl .acc ∧ shiftValue 0x80 true .asl = some (0x00, true) ∧
    (Instr.rorAbsX 0x0200).view = .cpu .ror (.src (.mem (.absx 0x0200))) ∧
    shiftValue 0x01 true .ror = some (0x80, true) ∧ shiftValue 0x01 false .lsr = some (0x00, true) ∧
    shiftValue 0xFF true .rol = some (0xFF, true) := by decide
theorem witness_LoadRules :
    (Instr.ldaIndY 0x10).view = .cpu .lda (.src (.mem (.indy 0x10))) ∧
    (Instr.ldxZpY 0xFF).view = .cpu .ldx (.src (.mem (.zpy 0xFF))) ∧ (Instr.ldyImm 0).view = .cpu .ldy (.src (.imm 0)) := by
  decide
/-- A store to RAM, one to the VP's trigger and one to ROM. -/
theorem witness_StoreRules :
    (Instr.staIndY 0x10).view = .cpu .sta (.src (.mem (.indy 0x10))) ∧
    (Instr.stxAbs 0x3000).view = .cpu .stx (.src (.mem (.abs 0x3000))) ∧
    (Instr.styAbs 0xFFFF).view = .cpu .sty (.src (.mem (.abs 0xFFFF))) := by decide
theorem witness_TransferRules :
    Instr.tax.view = .cpu .tax .imp ∧ Instr.tay.view = .cpu .tay .imp ∧ Instr.txa.view = .cpu .txa .imp ∧
    Instr.tya.view = .cpu .tya .imp ∧ Instr.tsx.view = .cpu .tsx .imp ∧ Instr.txs.view = .cpu .txs .imp := by decide
/-- A taken branch that crosses a page backwards, and one not taken. -/
theorem witness_BranchRules :
    (Instr.beq 0x80).view = .cpu .beq (.rel 0x80) ∧ w.cpu.pc + 2 = 0x0302 ∧
    BitVec.ofInt 16 ((0x0302 : Word).toNat + (0x80 : Byte).toInt) = (0x0282 : Word) ∧
    branchTaken w.cpu.p .beq = some true ∧ branchTaken v.cpu.p .beq = some false ∧
    (Instr.bvc 0x7F).view = .cpu .bvc (.rel 0x7F) ∧ branchTaken w.cpu.p .bvc = some false := by decide
theorem witness_JmpRule :
    (Instr.jmpAbs 0xFFFF).view = .cpu .jmp (.src (.mem (.abs 0xFFFF))) ∧ (Instr.jmpInd 0x02FF).view = .cpu .jmp (.ind 0x02FF) := by
  decide
theorem witness_JsrRule : (Instr.jsr 0x0320).view = .cpu .jsr (.src (.mem (.abs 0x0320))) ∧ w.cpu.s = 0 := by decide
theorem witness_ReturnRules :
    Instr.rts.view = .cpu .rts .imp ∧ Instr.rti.view = .cpu .rti .imp ∧ v.cpu.s = 0xFF := by decide
theorem witness_BrkRule : Instr.brk.view = .cpu .brk .imp ∧ w.cpu.s = 0 := by decide
theorem witness_StackRules :
    Instr.pha.view = .cpu .pha .imp ∧ Instr.php.view = .cpu .php .imp ∧ Instr.pla.view = .cpu .pla .imp ∧
    Instr.plp.view = .cpu .plp .imp ∧ w.cpu.s = 0 ∧ v.cpu.s = 0xFF := by decide
theorem witness_FlagRules :
    Instr.clc.view = .cpu .clc .imp ∧ Instr.sec.view = .cpu .sec .imp ∧ Instr.cli.view = .cpu .cli .imp ∧
    Instr.sei.view = .cpu .sei .imp ∧ Instr.cld.view = .cpu .cld .imp ∧ Instr.sed.view = .cpu .sed .imp ∧
    Instr.clv.view = .cpu .clv .imp ∧ Instr.nop.view = .cpu .nop .imp := by decide
theorem witness_VctrRule :
    let s := vpStart [0x9FFF, 0xF200] VpState.reset
    (s.vpRead s.vp.vpc).toNat = 0x9FFF ∧ (s.vpRead (s.vp.vpc + 1)).toNat = 0xF200 ∧ 0x9FFF / 4096 ≤ 9 ∧
    (vpStart [] VpState.reset).vpRead 0 = 0 ∧
    (Instr.vctr9 ⟨true, true, 0x3FF, 15, false, false, 0x200⟩).view =
      .vp (.vctr 9 ⟨true, true, 0x3FF, 15, false, false, 0x200⟩) := by decide
theorem witness_SvecRule :
    let s := vpStart [0xF873] VpState.reset
    (s.vpRead s.vp.vpc).toNat = 0xF873 ∧ 0xF873 / 4096 = 15 ∧ (5 : BitVec 4) = BitVec.ofNat 4 (2 + 2 * 1 + 1) ∧
    (Instr.svec ⟨true, true, 3, 0, true, true, 3⟩).view = .vp (.svec ⟨true, true, 3, 0, true, true, 3⟩) := by decide
theorem witness_LabsRule :
    let s := vpStart [0xAFFF, 0x7800] VpState.reset
    (s.vpRead s.vp.vpc).toNat = 0xAFFF ∧ (s.vpRead (s.vp.vpc + 1)).toNat = 0x7800 ∧ 0xAFFF / 4096 = 10 := by decide
theorem witness_VpControlRules :
    ((vpStart [0xB000] VpState.reset).vpRead 0).toNat / 4096 = 11 ∧
    ((vpStart [0xCFFF] VpState.reset).vpRead 0).toNat / 4096 = 12 ∧
    ((vpStart [0xD000] VpState.reset).vpRead 0).toNat / 4096 = 13 ∧
    ((vpStart [0xEFFF] VpState.reset).vpRead 0).toNat / 4096 = 14 := by decide
/-- Two machines that differ in the CPU, the latch and the frame. -/
theorem witness_VpIsolation :
    let s := vpStart [0xF873] VpState.reset
    let s' := ((s.setA 1).setLatch 4).setSched SchedState.reset
    s.bus.map.WellFormed ∧ s.bus.map = s'.bus.map ∧ s.vp = s'.vp ∧ s.vp.halted = false ∧ s.bus.vram = s'.bus.vram ∧
    s.bus.rom = s'.bus.rom ∧ s ≠ s' :=
  ⟨defaultMemoryMap_wellFormed, by decide, by decide, by decide, by decide, by decide, by decide⟩
/-- Two machines that differ in the beam and the stack pointer of the Vector Processor. -/
theorem witness_CpuBlindToVp :
    let w' := w.setVp { w.vp with vx := 7, vsp := 2 }
    w'.cpu = w.cpu ∧ w'.bus = w.bus ∧ w'.sched = w.sched ∧ w'.vp.halted = w.vp.halted ∧ w' ≠ w ∧
    cpuStep w = .next (after w (cpuStep w)) := ⟨rfl, rfl, rfl, rfl, by decide, rfl⟩
theorem witness_VpRunContract :
    w.vp.halted = true ∧ (vpStart [0xF873] VpState.reset).vp.halted = false ∧
    0 < (vpStart [0xF873] VpState.reset).vpCost ∧
    (vpStart [0xF873] VpState.reset).vpCost ≤ (vpStart [0xF873] VpState.reset).vpCost :=
  ⟨by decide, by decide, Nat.succ_pos _, Nat.le_refl _⟩
/-- One instruction for each clause: a read, a store, a read-modify-write, a branch and another. -/
theorem witness_CycleTable :
    (Instr.ldaAbsX 0x02F0).view = .cpu .lda (.src (.mem (.absx 0x02F0))) ∧ Mnemonic.lda.reads = true ∧
    (Instr.staAbsX 0x02F0).view = .cpu .sta (.src (.mem (.absx 0x02F0))) ∧ Mnemonic.sta.stores = true ∧
    (Instr.incAbsX 0x02F0).view = .cpu .inc (.src (.mem (.absx 0x02F0))) ∧ Mnemonic.inc.modifies = true ∧
    (Instr.beq 0x80).view = .cpu .beq (.rel 0x80) ∧ branchTaken w.cpu.p .beq = some true ∧
    branchTaken v.cpu.p .beq = some false ∧ Instr.aslAcc.view = .cpu .asl .acc ∧ Mnemonic.asl.reads = false ∧
    Mnemonic.asl.stores = false ∧ Mnemonic.asl.branches = false ∧
    (Instr.jmpInd 0x02FF).view = .cpu .jmp (.ind 0x02FF) ∧ Mnemonic.jmp.modifies = false ∧
    exec (.ldaAbsX 0x02F0) w = .next (after w (exec (.ldaAbsX 0x02F0) w)) :=
  ⟨by decide, by decide, by decide, by decide, by decide, by decide, by decide, by decide, by decide, by decide, by decide,
   by decide, by decide, by decide, by decide, rfl⟩
theorem witness_FlagWriters :
    Instr.txs.view = .cpu .txs .imp ∧
    Mnemonic.txs ∉ [Mnemonic.adc, .sbc, .cmp, .cpx, .cpy, .asl, .lsr, .rol, .ror, .clc, .sec, .plp, .rti] ∧
    Mnemonic.txs ∉ [Mnemonic.plp, .rti, .sei, .cli, .brk, .sed, .cld, .bit, .clv, .tsx] ∧
    exec .txs w = .next (after w (exec .txs w)) := ⟨by decide, by decide, by decide, rfl⟩
theorem witness_BreakFlagUnobservable : w.cpu.p.b = true ∧ cpuStep w = .next (after w (cpuStep w)) := ⟨by decide, rfl⟩
/-- The line rises at a HALT, and falls at an IRQ entry. -/
theorem witness_InterruptLine :
    let s := vpStart [0xB000] VpState.reset
    let u := v.setIrq true
    step s = .next (after s (step s)) ∧ s.cpu.irqPending = false ∧ (after s (step s)).cpu.irqPending = true ∧
    step u = .next (after u (step u)) ∧ u.cpu.irqPending = true ∧ (after u (step u)).cpu.irqPending = false :=
  ⟨rfl, rfl, rfl, rfl, rfl, rfl⟩
theorem witness_HaltThenInterrupt :
    let s := (vpStart [0xB000] VpState.reset).setP (Flags.unpack 0)
    s.cpu.fault = none ∧ s.sched.turn = .vp ∧ s.cpu.p.i = false ∧ s.vpFetch = .halt 0 ∧ s.cpu.nmiPending = false ∧
    (s.setNmi true).cpu.nmiPending = true := by decide
/-- A state after a CPU step, whose Vector Processor is not ready; with credit for its instruction it is. -/
theorem witness_AfterCpuStep :
    let s := after w (cpuStep w.beginFrame)
    s.cpu.fault = none ∧ s.cpu.cycles ≤ 7 ∧ s.NmiTimerOk ∧ s.afterCpuStep.vpReady = false ∧
    s.afterCpuStep.sched.used < s.afterCpuStep.sched.budget ∧ w.afterCpuStep.sched.budget ≤ w.afterCpuStep.sched.used :=
  ⟨by decide, by decide, ⟨by decide, by decide, by decide⟩, by decide, by decide, by decide⟩
theorem witness_AfterCpuStep_ready :
    let s := vpStart [0xF873] VpState.reset
    let u := s.setSched { s.sched with vpCredit := s.vpCost }
    u.cpu.fault = none ∧ u.cpu.cycles ≤ 7 ∧ u.NmiTimerOk ∧ u.afterCpuStep.vpReady = true := by
  refine ⟨by decide, by decide, ⟨by decide, by decide, by decide⟩, ?_⟩
  have h : (vpStart [0xF873] VpState.reset).vpCost ≤
      (vpStart [0xF873] VpState.reset).vpCost + 0 * Config.vpClockRatio := Nat.le_add_right _ _
  obtain ⟨b, k, e⟩ := State.afterCpuStep_eq (s := (vpStart [0xF873] VpState.reset).setSched
    { (vpStart [0xF873] VpState.reset).sched with vpCredit := (vpStart [0xF873] VpState.reset).vpCost }) rfl
  rw [e, State.handOver_vpReady]
  exact Bool.and_eq_true _ _ ▸ ⟨rfl, decide_eq_true h⟩
theorem witness_StepsRefineIteration :
    w.cpu.fault = none ∧ w.sched.turn = .cpu ∧ iteration w.beginFrame = .next (after w (iteration w.beginFrame)) :=
  ⟨rfl, rfl, rfl⟩
theorem witness_FrameIsRunOfSteps :
    let s := w.setSched { w.sched with pendingInputs := [Inputs.idle] }
    s.cpu.fault = none ∧ s.sched.turn = .cpu ∧ s.sched.frameOpen = false ∧ s.sched.frameOvershoot ≤ 6 ∧
    s.sched.pendingInputs = Inputs.idle :: [] := by decide

end Sys2Proof.Tests
end

/-! The end of a step and the stores: what the Scheduler leaves alone, and the proof of O12. -/

namespace Sys2Proof.Machine

/-! What closing a frame and handing over the turn leave of the frame's lists. -/

@[simp] theorem SchedState.close_pendingInputs (d : SchedState) : d.close.pendingInputs = d.pendingInputs := by
  rcases d.close_cases with ⟨-, h⟩ | ⟨-, h⟩ <;> rw [h]
@[simp] theorem State.handOver_segments (s : State) : s.handOver.sched.segments = s.sched.segments := by
  rcases s.handOver_cases with ⟨-, h⟩ | ⟨-, h⟩ <;> rw [h] <;> simp
@[simp] theorem State.handOver_pendingInputs (s : State) : s.handOver.sched.pendingInputs = s.sched.pendingInputs := by
  rcases s.handOver_cases with ⟨-, h⟩ | ⟨-, h⟩ <;> rw [h] <;> simp

/-! What the Scheduler does after a CPU step leaves alone. -/

/-- After a decode fault nothing; else the counters, the NMI request, the credit, and the hand-over. -/
theorem State.afterCpuStep_cases (s : State) :
    s.afterCpuStep = s ∨
    ∃ n b u k v, s.afterCpuStep = State.handOver
      { cpu := { s.cpu with cycleCount := n, nmiPending := b }, bus := s.bus, vp := s.vp,
        sched := { s.sched with used := u, nmiPhase := k, vpCredit := v } } := by
  rcases hf : s.cpu.fault with _ | f
  · obtain ⟨b, k, h⟩ := State.afterCpuStep_eq hf
    exact .inr ⟨_, b, _, _, _, h⟩
  · exact .inl (by simp [State.afterCpuStep, hf])

@[simp] theorem State.afterCpuStep_bus (s : State) : s.afterCpuStep.bus = s.bus := by
  rcases s.afterCpuStep_cases with h | ⟨_, _, _, _, _, h⟩ <;> rw [h]; rfl
@[simp] theorem State.afterCpuStep_irqPending (s : State) : s.afterCpuStep.cpu.irqPending = s.cpu.irqPending := by
  rcases s.afterCpuStep_cases with h | ⟨_, _, _, _, _, h⟩ <;> rw [h]; rfl
@[simp] theorem State.afterCpuStep_segments (s : State) : s.afterCpuStep.sched.segments = s.sched.segments := by
  rcases s.afterCpuStep_cases with h | ⟨_, _, _, _, _, h⟩ <;> rw [h]; simp
@[simp] theorem State.afterCpuStep_pendingInputs (s : State) :
    s.afterCpuStep.sched.pendingInputs = s.sched.pendingInputs := by
  rcases s.afterCpuStep_cases with h | ⟨_, _, _, _, _, h⟩ <;> rw [h]; simp
@[simp] theorem State.afterCpuStep_budget (s : State) : s.afterCpuStep.sched.budget = s.sched.budget := by
  rcases s.afterCpuStep_cases with h | ⟨_, _, _, _, _, h⟩ <;> rw [h]; simp

/-! What the Scheduler does after an instruction of the Vector Processor leaves alone. -/

@[simp] theorem State.afterVpInstr_cpu (s : State) (c : Nat) : (s.afterVpInstr c).cpu = s.cpu := rfl
@[simp] theorem State.afterVpInstr_bus (s : State) (c : Nat) : (s.afterVpInstr c).bus = s.bus := rfl
@[simp] theorem State.afterVpInstr_segments (s : State) (c : Nat) :
    (s.afterVpInstr c).sched.segments = s.sched.segments := by
  simp [State.afterVpInstr]
@[simp] theorem State.afterVpInstr_pendingInputs (s : State) (c : Nat) :
    (s.afterVpInstr c).sched.pendingInputs = s.sched.pendingInputs := by
  simp [State.afterVpInstr]

/-! The canonical form of the memory. -/

/-- What a CPU step keeps, whatever state it answers. -/
theorem cpuStep_keeps {s t : State} (h : cpuStep s = .next t) : StepKeeps s t := by
  obtain ⟨u, hu, hk, -⟩ := cpuStep_next s
  obtain rfl : t = u := Host.Outcome.next.inj (h.symm.trans hu)
  exact hk

/-- Beginning a frame touches no store and no row of the map. -/
theorem State.beginFrame_memoryCanonical {s : State} (hs : s.MemoryCanonical) : s.beginFrame.MemoryCanonical := by
  obtain ⟨hram, hvram, hrom, -, hmap⟩ := s.beginFrame_stores
  unfold State.MemoryCanonical at *
  rwa [hram, hvram, hrom, hmap]

/-- Settles O12: the CPU's step keeps the stores and the Scheduler touches none; the Vector Processor never writes. -/
theorem stepKeepsMemoryCanonical : Obligations.StepKeepsMemoryCanonical := by
  intro s t hs h
  obtain ⟨-, ⟨-, u, hu, rfl⟩ | ⟨-, u, hu, rfl⟩⟩ := step_cases h
  · have hmem : u.MemoryCanonical := (cpuStep_keeps hu).memory (State.beginFrame_memoryCanonical hs)
    exact hmem.congr u.afterCpuStep_bus
  · have hbus : u.bus = s.bus := (exec_vpFrame s.vpFetch_isa hu).bus
    exact hs.congr ((u.afterVpInstr_bus _).trans hbus)

end Sys2Proof.Machine

/-! The status byte, and the machine that power-on makes: O9, O10 and O11. -/

namespace Sys2Proof.Machine

/-! The status byte. -/

/-- Where each flag stands in a packed status byte (10_state R44). -/
theorem Flags.getLsbD_pack (p : Flags) (b : Bool) :
    (p.pack b).getLsbD 7 = p.n ∧ (p.pack b).getLsbD 6 = p.v ∧ (p.pack b).getLsbD 5 = true ∧
    (p.pack b).getLsbD 4 = b ∧ (p.pack b).getLsbD 3 = p.d ∧ (p.pack b).getLsbD 2 = p.i ∧
    (p.pack b).getLsbD 1 = p.z ∧ (p.pack b).getLsbD 0 = p.c := by
  obtain ⟨n, v, b', d, i, z, c⟩ := p
  simp only [Flags.pack]
  revert n v b d i z c
  decide

/-- Unpacking a packed status byte gives the flags back, with B the break bit (10_state R45). -/
theorem Flags.unpack_pack (p : Flags) (b : Bool) : Flags.unpack (p.pack b) = { p with b := b } := by
  obtain ⟨hn, hv, -, hb, hd, hi, hz, hc⟩ := p.getLsbD_pack b
  simp only [Flags.unpack, hn, hv, hb, hd, hi, hz, hc]

/-- Settles O9. -/
theorem statusByte : Obligations.StatusByte := by
  intro p b v
  obtain ⟨hn, hv, h5, hb, hd, hi, hz, hc⟩ := p.getLsbD_pack b
  exact ⟨hn, hv, h5, hb, hd, hi, hz, hc, rfl, p.unpack_pack b⟩

/-! The image as a store. -/

/-- A listed cell of an image lies in the image's range and is not 0. -/
theorem mem_imageCells {k : Nat} {l : List Byte} {c : Host.Cell} (h : c ∈ imageCells k l) :
    k ≤ c.1 ∧ c.1 < k + l.length ∧ c.2 ≠ 0 := by
  induction l generalizing k with
  | nil => exact absurd h List.not_mem_nil
  | cons v vs ih =>
    have tail : c ∈ imageCells (k + 1) vs → k ≤ c.1 ∧ c.1 < k + (v :: vs).length ∧ c.2 ≠ 0 := fun ht => by
      obtain ⟨h1, h2, h3⟩ := ih ht
      rw [List.length_cons]
      exact ⟨by omega, by omega, h3⟩
    by_cases hv : v = 0
    · rw [imageCells, if_pos hv] at h
      exact tail h
    · rw [imageCells, if_neg hv] at h
      rcases List.mem_cons.1 h with rfl | ht
      · exact ⟨Nat.le_refl k, Nat.lt_add_of_pos_right (Nat.succ_pos _), hv⟩
      · exact tail ht

/-- The cells of an image are listed in rising order. -/
theorem sorted_imageCells (k : Nat) (l : List Byte) : (imageCells k l).Pairwise (fun p q => p.1 < q.1) := by
  induction l generalizing k with
  | nil => exact List.Pairwise.nil
  | cons v vs ih =>
    rw [imageCells]
    split
    · exact ih (k + 1)
    · exact List.pairwise_cons.2 ⟨fun c hc => (mem_imageCells hc).1, ih (k + 1)⟩

/-- Each offset of an image reads its byte, and every later offset reads 0. -/
theorem lookupCell_imageCells (k j : Nat) (l : List Byte) : lookupCell (imageCells k l) (k + j) = l.getD j 0 := by
  induction l generalizing k j with
  | nil => rfl
  | cons v vs ih =>
    rw [imageCells]
    cases j with
    | zero =>
      split
      · next hv =>
        rw [List.getD_cons_zero, hv]
        exact lookupCell_eq_zero fun c hc => Nat.ne_of_gt (mem_imageCells hc).1
      · simp [lookupCell]
    | succ j =>
      have htail : lookupCell (imageCells (k + 1) vs) (k + (j + 1)) = vs.getD j 0 := by
        rw [← ih (k + 1) j]
        congr 1
        omega
      rw [List.getD_cons_succ, ← htail]
      split
      · rfl
      · simp [lookupCell]

/-- An image is a store in canonical form of its own length. -/
theorem Memory.wf_image (l : List Byte) : (Memory.mk (imageCells 0 l)).wf l.length :=
  ⟨sorted_imageCells 0 l, fun _ hc => (mem_imageCells hc).2.2, fun c hc => by
    have := (mem_imageCells hc).2.1
    omega⟩

theorem Memory.get_image (l : List Byte) (k : Nat) : (Memory.mk (imageCells 0 l)).get k = l.getD k 0 := by
  have h := lookupCell_imageCells 0 k l
  rwa [Nat.zero_add] at h

/-! Power-on. -/

theorem powerOn_of_length {image : List Byte} (h : image.length = 8192) (map : MemoryMap) (d : Draws) :
    powerOn map image d = .ok (State.loaded map image d).cpuReset := if_pos h

theorem powerOn_of_length_ne {image : List Byte} (h : image.length ≠ 8192) (map : MemoryMap) (d : Draws) :
    powerOn map image d = .error (.loadFault image.length) := if_neg h

/-- The reset sequence changes registers of the CPU only, so every address reads as before. -/
theorem State.cpuReset_read (s : State) (a : Word) : s.cpuReset.read a = s.read a :=
  State.read_congr rfl rfl rfl rfl rfl rfl rfl rfl a

/-- Under the default map the vectors are the last six bytes of the image (20_memory R116). -/
theorem State.loaded_read_vector (image : List Byte) (d : Draws) {k : Nat} (h : k < 6) :
    (State.loaded defaultMemoryMap image d).read (BitVec.ofNat 16 (0xFFFA + k)) = image.getD (0x1FFA + k) 0 := by
  rw [State.read_at_rom (defaultMemoryMap_vector h)]
  exact Memory.get_image image _

/-- Settles O10: each piece of state by its own value, the image as a store by `Memory.get_image`. -/
theorem powerOnValues : Obligations.PowerOn := by
  intro map image d
  refine ⟨fun h => powerOn_of_length_ne h map d, fun h => ?_⟩
  have hrom : (Memory.mk (imageCells 0 image)).wf 8192 := h ▸ Memory.wf_image image
  have hpc : (State.loaded map image d).cpuReset.cpu.pc =
      w16 ((State.loaded map image d).read 0xFFFC) ((State.loaded map image d).read 0xFFFD) := rfl
  refine ⟨(State.loaded map image d).cpuReset, powerOn_of_length h map d, rfl, rfl, rfl, rfl, rfl, rfl, ?_, ?_, rfl, rfl,
    rfl, rfl, rfl, rfl, Memory.get_image image, hrom, rfl, rfl, rfl, rfl, rfl, rfl, rfl⟩
  · rw [hpc, State.cpuReset_read, State.cpuReset_read]
  · rintro rfl
    rw [hpc]
    exact congrArg₂ w16 (State.loaded_read_vector image d (k := 2) (by decide))
      (State.loaded_read_vector image d (k := 3) (by decide))

/-! The invariants of a machine that has not moved yet. -/

/-- A halted Vector Processor is not ready, so the Scheduler's start is in order (10_state R57). -/
theorem State.schedulerOk_of_reset {s : State} (hv : s.vp = VpState.reset) (hd : s.sched = SchedState.reset) :
    s.SchedulerOk := by
  have hready : s.vpReady = false := by rw [State.vpReady, hv]; rfl
  constructor <;> simp [hd, hready, SchedState.reset]

/-- The first NMI phase is one period after cycle 0 (60_exceptions R420). -/
theorem State.nmiTimerOk_of_reset {s : State} (hc : s.cpu.cycleCount = 0) (hd : s.sched = SchedState.reset) :
    s.NmiTimerOk := by
  constructor <;> simp [hc, hd, SchedState.reset, Config.nmiPeriod]

/-- Power-on puts the draws and the image in place, so the memory is canonical when the draws are. -/
theorem State.powerOn_memoryCanonical {map : MemoryMap} {image : List Byte} {d : Draws} (hm : map.WellFormed)
    (hi : image.length = 8192) (hr : d.ram.wf map.ramSize) (hv : d.vram.wf map.vramSize) :
    (State.loaded map image d).cpuReset.MemoryCanonical :=
  ⟨hm, hr, hv, (hi ▸ Memory.wf_image image : (Memory.mk (imageCells 0 image)).wf 8192)⟩

/-- Settles O11. -/
theorem invariantsAtReset : Obligations.InvariantsAtReset :=
  ⟨⟨reset_memoryCanonical, State.schedulerOk_of_reset rfl rfl, State.nmiTimerOk_of_reset rfl rfl⟩,
    ⟨defaultMemoryMap_wellFormed, rfl, rfl⟩,
    fun map _ d hm hi hr hv => ⟨_, powerOn_of_length hi map d, State.powerOn_memoryCanonical hm hi hr hv,
      State.schedulerOk_of_reset rfl rfl, State.nmiTimerOk_of_reset rfl rfl⟩⟩

end Sys2Proof.Machine

/-! A frame's outputs and the interrupt line: O15 and O56. -/

namespace Sys2Proof.Machine

/-! The beginning of a frame. -/

theorem State.beginFrame_of_open {s : State} (h : s.sched.frameOpen = true) : s.beginFrame = s := if_pos h

/-- A frame opens with both output lists empty and the shortened budget (60_exceptions R430). -/
theorem State.beginFrame_opened {s : State} (h : s.sched.frameOpen = false) :
    s.beginFrame.sched.segments = [] ∧ s.beginFrame.bus.soundEvents = [] ∧
    s.beginFrame.sched.budget = 25200 - s.sched.frameOvershoot := by
  rcases s.beginFrame_cases with ⟨ho, -⟩ | ⟨-, inp, rest, hb⟩
  · rw [h] at ho; exact Bool.noConfusion ho
  · rw [hb]; exact ⟨rfl, rfl, rfl⟩

/-- A frame opens on the next queued snapshot. -/
theorem State.beginFrame_queued {s : State} {inp : Inputs} {rest : List Inputs} (h : s.sched.frameOpen = false)
    (hp : s.sched.pendingInputs = inp :: rest) :
    s.beginFrame.bus.snapshot = inp ∧ s.beginFrame.sched.pendingInputs = rest := by
  simp [State.beginFrame, h, hp]

/-- The frame that opens does not depend on the sound events of the last one. -/
theorem State.beginFrame_setSound {s : State} (h : s.sched.frameOpen = false) (old : List SoundEvent) :
    (s.setSound old).beginFrame = s.beginFrame := by
  simp only [State.beginFrame, State.setSound_sched, h]
  cases s.sched.pendingInputs <;> rfl

/-- On the CPU's turn a step sees the machine only through the frame it begins. -/
theorem step_setSound {s : State} (h : s.sched.frameOpen = false) (ht : s.sched.turn = .cpu) (old : List SoundEvent) :
    step (s.setSound old) = step s := by
  simp only [step, State.setSound_cpu, State.setSound_sched, ht, State.beginFrame_setSound h]

/-! The sound events of one CPU step. -/

/-- A Bus write appends one event at most (20_memory R115). -/
theorem State.write_sound_length (s : State) (a : Word) (v : Byte) :
    (s.write a v).bus.soundEvents.length ≤ s.bus.soundEvents.length + 1 := by
  rcases s.write_cases a v with ⟨_, -, h⟩ | ⟨_, -, h⟩ | ⟨-, h⟩ | ⟨-, h⟩ | ⟨-, h⟩ | h <;> rw [h] <;> simp

/-- A push is a write to RAM, so it appends none (20_memory R116). -/
theorem State.push_sound {s : State} (hm : s.bus.map.WellFormed) (v : Byte) :
    (s.push v).bus.soundEvents = s.bus.soundEvents := by
  obtain ⟨k, -, h⟩ := State.push_eq hm v
  rw [h]
  rfl

theorem State.pushWord_sound {s : State} (hm : s.bus.map.WellFormed) (w : Word) :
    (s.pushWord w).bus.soundEvents = s.bus.soundEvents := by
  have hm' : (s.push (hi w)).bus.map.WellFormed := (s.push_keeps (hi w)).map ▸ hm
  exact (State.push_sound hm' (lo w)).trans (State.push_sound hm (hi w))

theorem State.enterVector_sound {s : State} (hm : s.bus.map.WellFormed) (ret : Word) (brk : Bool) (vec : Word) :
    (s.enterVector ret brk vec).bus.soundEvents = s.bus.soundEvents := by
  have hm' : (s.pushWord ret).bus.map.WellFormed := (s.pushWord_keeps ret).map ▸ hm
  obtain ⟨-, hb, -⟩ := s.enterVector_frame ret brk vec
  rw [hb]
  exact (State.push_sound hm' _).trans (State.pushWord_sound hm ret)

theorem State.interruptEntry_sound {s : State} (hm : s.bus.map.WellFormed) (vec : Word) :
    (s.interruptEntry vec).bus.soundEvents = s.bus.soundEvents :=
  State.enterVector_sound hm s.cpu.pc false vec

theorem RegisterOnly.bus {s t : State} (h : RegisterOnly s t) : t.bus = s.bus := by
  unfold RegisterOnly at h
  rw [h]

/-- An instruction appends one event at most: it makes one write of its own, or pushes, or writes nothing. -/
theorem CpuShape.sound_length {s t : State} {r : Host.Outcome State Fault Refusal} (hr : CpuShape s r)
    (hm : s.bus.map.WellFormed) (h : r = .next t) :
    t.bus.soundEvents.length ≤ s.bus.soundEvents.length + 1 := by
  have silent : t.bus.soundEvents = s.bus.soundEvents →
      t.bus.soundEvents.length ≤ s.bus.soundEvents.length + 1 := fun he => he ▸ Nat.le_succ _
  cases hr with
  | read f o hf => exact silent (congrArg BusState.soundEvents (readOp_next h ▸ (hf _ s).bus))
  | store v m =>
    rw [storeOp_next h, State.retire_bus]
    exact s.write_sound_length _ _
  | modify f c m hc =>
    rw [modifyMem_next h, State.retire_bus, State.setP_bus]
    exact s.write_sound_length _ _
  | shift f => exact silent (modifyAcc_next h ▸ rfl)
  | register g c hg h2 h4 => exact silent (congrArg BusState.soundEvents (impliedOp_next h ▸ (hg s).bus))
  | branch b off =>
    obtain ⟨pc, n, rfl⟩ := branchOp_next h
    exact silent rfl
  | push v =>
    cases h
    refine silent ?_
    rw [State.retire_bus, State.push_sound hm]
  | jump w c h2 h5 =>
    cases h
    exact silent rfl
  | jsr w =>
    cases h
    refine silent ?_
    rw [State.setCycles_bus, State.setPC_bus, State.pushWord_sound hm]
  | rts =>
    cases h
    exact silent rfl
  | brk =>
    cases h
    refine silent ?_
    rw [State.setCycles_bus, State.enterVector_sound hm]
  | rti =>
    cases h
    exact silent rfl

theorem cpuStep_sound_length {s t : State} (hm : s.bus.map.WellFormed) (h : cpuStep s = .next t) :
    t.bus.soundEvents.length ≤ s.bus.soundEvents.length + 1 := by
  rcases cpuStep_cases s with ⟨-, hn⟩ | ⟨-, -, -, hq⟩ | ⟨-, hc⟩
  · obtain rfl := Host.Outcome.next.inj (h.symm.trans hn)
    rw [State.interruptEntry_sound (s := s.setNmi false) hm nmiVector, State.setNmi_bus]
    exact Nat.le_succ _
  · obtain rfl := Host.Outcome.next.inj (h.symm.trans hq)
    rw [State.interruptEntry_sound (s := s.setIrq false) hm irqVector, State.setIrq_bus]
    exact Nat.le_succ _
  · rw [hc] at h
    rcases cpuInstruction_cases s with ⟨i, _, -, hi, he⟩ | ⟨-, he⟩ <;> rw [he] at h
    · exact (exec_shape hi s).sound_length hm h
    · cases h
      exact Nat.le_succ _

/-! The frame's outputs over one step. -/

/-- A CPU step in an open frame: the snapshot and the queue stay, the lists grow. -/
theorem cpuTurn_outputs {s u : State} (h : cpuStep s = .next u) :
    u.afterCpuStep.bus.snapshot = s.bus.snapshot ∧
    u.afterCpuStep.sched.pendingInputs = s.sched.pendingInputs ∧
    s.bus.soundEvents <+: u.afterCpuStep.bus.soundEvents ∧
    u.afterCpuStep.sched.segments = s.sched.segments ∧ u.afterCpuStep.sched.budget = s.sched.budget := by
  have hk := cpuStep_keeps h
  simpa [hk.snapshot, hk.sched] using hk.sound

/-- An instruction of the Vector Processor adds to the segments at most. -/
theorem vpTurn_outputs {s u : State} {c : Nat} (h : exec s.vpFetch s = .next u) :
    (u.afterVpInstr c).bus.snapshot = s.bus.snapshot ∧
    (u.afterVpInstr c).sched.pendingInputs = s.sched.pendingInputs ∧
    s.bus.soundEvents <+: (u.afterVpInstr c).bus.soundEvents ∧
    s.sched.segments <+: (u.afterVpInstr c).sched.segments := by
  obtain ⟨hb, -, hs, hg⟩ := exec_vpFrame s.vpFetch_isa h
  rw [State.afterVpInstr_bus, State.afterVpInstr_pendingInputs, State.afterVpInstr_segments, hb, hs]
  exact ⟨rfl, rfl, List.prefix_rfl, hg⟩

/-- Settles O15: in an open frame by the frame of each agent's turn, at a frame's start by what `beginFrame` leaves. -/
theorem frameOutputs : Obligations.FrameOutputs := by
  intro s t h
  obtain ⟨-, ⟨ht, u, hu, rfl⟩ | ⟨ht, u, hu, rfl⟩⟩ := step_cases h
  · obtain ⟨hsnap, hqueue, hsound, hseg, hbudget⟩ := cpuTurn_outputs hu
    refine ⟨fun hc => ?_, fun ho _ => ?_⟩
    · have hopen : s.sched.frameOpen = true := hc.resolve_right (by simp [ht])
      rw [State.beginFrame_of_open hopen] at hsnap hqueue hsound hseg
      exact ⟨hsnap, hqueue, hsound, hseg ▸ List.prefix_rfl⟩
    · obtain ⟨hseg0, hsound0, hbudget0⟩ := State.beginFrame_opened ho
      refine ⟨hseg.trans hseg0, fun old => (step_setSound ho ht old).trans h, fun hs => ?_,
        hbudget.trans hbudget0, fun inp rest hp => ?_⟩
      · have hlen := cpuStep_sound_length (State.beginFrame_memoryCanonical hs).1 hu
        rw [hsound0] at hlen
        rwa [State.afterCpuStep_bus]
      · obtain ⟨hsnap0, hqueue0⟩ := State.beginFrame_queued ho hp
        exact ⟨hsnap.trans hsnap0, hqueue.trans hqueue0⟩
  · exact ⟨fun _ => vpTurn_outputs hu, fun _ hc => by simp [ht] at hc⟩

/-! The interrupt line. -/

/-- Of the Vector Processor's instructions only HALT touches the line, and it raises it (46_vector_processor R344). -/
theorem exec_vp_irqPending {i : Instr} {s t : State} (hi : i.isa = .vp) (h : exec i s = .next t) :
    t.cpu.irqPending = s.cpu.irqPending ∨ ((∃ u, i = .halt u) ∧ t.cpu.irqPending = true) := by
  cases i with
  | halt u =>
    cases h
    exact .inr ⟨⟨u, rfl⟩, rfl⟩
  | vctr0 | vctr1 | vctr2 | vctr3 | vctr4 | vctr5 | vctr6 | vctr7 | vctr8 | vctr9 | labs | jsrl | rtsl | jmpl | svec =>
    cases h
    exact .inl rfl
  | _ => exact Isa.noConfusion hi

/-- A CPU step leaves the line alone, or is the IRQ entry, which clears it (60_exceptions R411). -/
theorem cpuStep_irqPending {s t : State} (h : cpuStep s = .next t) :
    t.cpu.irqPending = s.cpu.irqPending ∨
    (s.cpu.nmiPending = false ∧ s.cpu.p.i = false ∧ t.cpu.irqPending = false ∧
      cpuStep s = .next ((s.setIrq false).interruptEntry irqVector)) := by
  rcases cpuStep_cases s with ⟨-, hn⟩ | ⟨hn, -, hp, hq⟩ | ⟨-, hc⟩
  · obtain rfl := Host.Outcome.next.inj (h.symm.trans hn)
    exact .inl ((s.setNmi false).interruptEntry_frame nmiVector).irqPending
  · obtain rfl := Host.Outcome.next.inj (h.symm.trans hq)
    exact .inr ⟨hn, hp, ((s.setIrq false).interruptEntry_frame irqVector).irqPending, hq⟩
  · rw [hc] at h
    rcases cpuInstruction_cases s with ⟨i, _, -, hi, he⟩ | ⟨-, he⟩ <;> rw [he] at h
    · exact .inl (exec_cpuFrame hi h).irqPending
    · cases h
      exact .inl rfl

/-- Settles O56. -/
theorem interruptLine : Obligations.InterruptLine := by
  intro s t h
  obtain ⟨-, ⟨ht, u, hu, rfl⟩ | ⟨ht, u, hu, rfl⟩⟩ := step_cases h
  · rw [State.afterCpuStep_irqPending]
    rcases cpuStep_irqPending hu with hkeep | ⟨hn, hp, hclear, hq⟩
    · rw [hkeep, State.beginFrame_cpu]
      exact ⟨fun h0 h1 => by simp [h0] at h1, fun h1 h0 => by simp [h1] at h0⟩
    · rw [State.beginFrame_cpu] at hn hp
      exact ⟨fun _ h1 => by simp [hclear] at h1, fun _ _ => ⟨ht, hn, hp, hq⟩⟩
  · rw [State.afterVpInstr_cpu]
    rcases exec_vp_irqPending s.vpFetch_isa hu with hkeep | ⟨hhalt, hraise⟩
    · rw [hkeep]
      exact ⟨fun h0 h1 => by simp [h0] at h1, fun h1 h0 => by simp [h1] at h0⟩
    · exact ⟨fun _ _ => ⟨ht, hhalt⟩, fun _ h0 => by simp [hraise] at h0⟩

end Sys2Proof.Machine

/-! What an instruction does to the flags: O54 and O55. One inversion of `exec`, by mnemonic and uniform in the state, gives
each of the two the mnemonic's own function to speak of. -/

namespace Sys2Proof.Machine

/-! The function of a mnemonic, whatever its addressing mode. -/

/-- What an instruction that reads its operand does with it. -/
def readStep : Mnemonic → Option (Byte → State → State)
  | .adc => some adcStep
  | .sbc => some sbcStep
  | .cmp => some cmpStep
  | .cpx => some cpxStep
  | .cpy => some cpyStep
  | .and => some andStep
  | .ora => some oraStep
  | .eor => some eorStep
  | .bit => some bitStep
  | .lda => some ldaStep
  | .ldx => some ldxStep
  | .ldy => some ldyStep
  | _ => none

/-- The register that a store writes to memory. -/
def storedRegister : Mnemonic → Option (CpuState → Byte)
  | .sta => some CpuState.a
  | .stx => some CpuState.x
  | .sty => some CpuState.y
  | _ => none

/-- The result and the flags of a read-modify-write instruction or a shift of the accumulator. -/
def modifyResult : Mnemonic → Option (Flags → Byte → Byte × Flags)
  | .inc => some incResult
  | .dec => some decResult
  | .asl => some aslResult
  | .lsr => some lsrResult
  | .rol => some rolResult
  | .ror => some rorResult
  | _ => none

/-- What an implied-mode instruction does. -/
def impliedStep : Mnemonic → Option (State → State)
  | .inx => some inxStep
  | .iny => some inyStep
  | .dex => some dexStep
  | .dey => some deyStep
  | .tax => some taxStep
  | .tay => some tayStep
  | .txa => some txaStep
  | .tya => some tyaStep
  | .tsx => some tsxStep
  | .txs => some txsStep
  | .nop => some id
  | .pha => some phaStep
  | .php => some phpStep
  | .pla => some plaStep
  | .plp => some plpStep
  | .clc => some clcStep
  | .sec => some secStep
  | .cli => some cliStep
  | .sei => some seiStep
  | .cld => some cldStep
  | .sed => some sedStep
  | .clv => some clvStep
  | _ => none

/-- The forms of a mnemonic's meaning, as functions of the state. -/
inductive CpuForm : Mnemonic → (State → Host.Outcome State Fault Refusal) → Prop where
  | read {k f} (h : readStep k = some f) (c : Nat) (o : Operand) : CpuForm k (readOp f c o)
  | store {k r} (h : storedRegister k = some r) (c : Nat) (m : MemMode) : CpuForm k (fun s => storeOp (r s.cpu) c m s)
  | modify {k f} (h : modifyResult k = some f) (c : Nat) (m : MemMode) : CpuForm k (modifyMem f c m)
  | shift {k f} (h : modifyResult k = some f) (c : Nat) : CpuForm k (modifyAcc f c)
  | implied {k g} (h : impliedStep k = some g) (c : Nat) : CpuForm k (impliedOp g c)
  | branch {k} {b : Flags → Bool} (h : ∀ p, branchTaken p k = some (b p)) (off : Byte) :
      CpuForm k (fun s => branchOp (b s.cpu.p) 2 off s)
  | jmpAbs (w : Word) : CpuForm .jmp (execJmpAbs w)
  | jmpInd (w : Word) : CpuForm .jmp (execJmpInd w)
  | jsr (w : Word) : CpuForm .jsr (execJsr w)
  | rts : CpuForm .rts execRts
  | brk : CpuForm .brk execBrk
  | rti : CpuForm .rti execRti

/-- Every CPU instruction's meaning has a form of its mnemonic. -/
theorem exec_form {i : Instr} {k : Mnemonic} {md : Mode} (h : i.view = .cpu k md) : CpuForm k (exec i) := by
  cases i with
  | adcImm | adcZp | adcZpX | adcAbs | adcAbsX | adcAbsY | adcIndX | adcIndY
  | sbcImm | sbcZp | sbcZpX | sbcAbs | sbcAbsX | sbcAbsY | sbcIndX | sbcIndY
  | cmpImm | cmpZp | cmpZpX | cmpAbs | cmpAbsX | cmpAbsY | cmpIndX | cmpIndY
  | cpxImm | cpxZp | cpxAbs | cpyImm | cpyZp | cpyAbs
  | andImm | andZp | andZpX | andAbs | andAbsX | andAbsY | andIndX | andIndY
  | oraImm | oraZp | oraZpX | oraAbs | oraAbsX | oraAbsY | oraIndX | oraIndY
  | eorImm | eorZp | eorZpX | eorAbs | eorAbsX | eorAbsY | eorIndX | eorIndY
  | bitZp | bitAbs
  | ldaImm | ldaZp | ldaZpX | ldaAbs | ldaAbsX | ldaAbsY | ldaIndX | ldaIndY
  | ldxImm | ldxZp | ldxZpY | ldxAbs | ldxAbsY
  | ldyImm | ldyZp | ldyZpX | ldyAbs | ldyAbsX =>
    cases h
    exact .read rfl _ _
  | staZp | staZpX | staAbs | staAbsX | staAbsY | staIndX | staIndY | stxZp | stxZpY | stxAbs | styZp | styZpX | styAbs =>
    cases h
    exact .store rfl _ _
  | incZp | incZpX | incAbs | incAbsX | decZp | decZpX | decAbs | decAbsX
  | aslZp | aslZpX | aslAbs | aslAbsX | lsrZp | lsrZpX | lsrAbs | lsrAbsX
  | rolZp | rolZpX | rolAbs | rolAbsX | rorZp | rorZpX | rorAbs | rorAbsX =>
    cases h
    exact .modify rfl _ _
  | aslAcc | lsrAcc | rolAcc | rorAcc =>
    cases h
    exact .shift rfl _
  | inx | iny | dex | dey | tax | tay | txa | tya | tsx | txs | nop | pha | php | pla | plp
  | clc | sec | cli | sei | cld | sed | clv =>
    cases h
    exact .implied rfl _
  | bcc off => cases h; exact .branch (b := fun p => !p.c) (fun _ => rfl) off
  | bcs off => cases h; exact .branch (b := fun p => p.c) (fun _ => rfl) off
  | beq off => cases h; exact .branch (b := fun p => p.z) (fun _ => rfl) off
  | bmi off => cases h; exact .branch (b := fun p => p.n) (fun _ => rfl) off
  | bne off => cases h; exact .branch (b := fun p => !p.z) (fun _ => rfl) off
  | bpl off => cases h; exact .branch (b := fun p => !p.n) (fun _ => rfl) off
  | bvc off => cases h; exact .branch (b := fun p => !p.v) (fun _ => rfl) off
  | bvs off => cases h; exact .branch (b := fun p => p.v) (fun _ => rfl) off
  | jmpAbs w => cases h; exact .jmpAbs w
  | jmpInd w => cases h; exact .jmpInd w
  | jsr w => cases h; exact .jsr w
  | rts => cases h; exact .rts
  | brk => cases h; exact .brk
  | rti => cases h; exact .rti
  | _ => cases h

/-! The flags after an instruction. -/

/-- What may become of the flags `p`, by the mnemonic: the table of 10_state R47 read by its instructions. -/
def FlagsAfter (p q : Flags) : Mnemonic → Prop
  | .adc | .sbc => ∃ n v z c, q = { p with n := n, v := v, z := z, c := c }
  | .cmp | .cpx | .cpy | .asl | .lsr | .rol | .ror => ∃ n z c, q = { p with n := n, z := z, c := c }
  | .bit => ∃ n v z, q = { p with n := n, v := v, z := z }
  | .and | .ora | .eor | .inc | .dec | .inx | .iny | .dex | .dey | .lda | .ldx | .ldy | .tax | .tay | .txa | .tya | .tsx
  | .pla => ∃ n z, q = { p with n := n, z := z }
  | .clc | .sec => ∃ c, q = { p with c := c }
  | .cli | .sei | .brk => ∃ i, q = { p with i := i }
  | .cld | .sed => ∃ d, q = { p with d := d }
  | .clv => ∃ v, q = { p with v := v }
  | .plp | .rti => True
  | _ => q = p

theorem adcResult_flags (a m : Byte) (p : Flags) :
    ∃ n v z c, (adcResult a m p).2 = { p with n := n, v := v, z := z, c := c } := by
  unfold adcResult
  split <;> exact ⟨_, _, _, _, rfl⟩

theorem readStep_flags {k : Mnemonic} {f : Byte → State → State} (h : readStep k = some f) (m : Byte) (s : State) :
    FlagsAfter s.cpu.p (f m s).cpu.p k := by
  cases k with
  | adc => cases h; exact adcResult_flags s.cpu.a m s.cpu.p
  | sbc => cases h; exact ⟨_, _, _, _, rfl⟩
  | cmp | cpx | cpy | bit => cases h; exact ⟨_, _, _, rfl⟩
  | and | ora | eor | lda | ldx | ldy => cases h; exact ⟨_, _, rfl⟩
  | _ => cases h

theorem modifyResult_flags {k : Mnemonic} {f : Flags → Byte → Byte × Flags} (h : modifyResult k = some f) (p : Flags)
    (v : Byte) : FlagsAfter p (f p v).2 k := by
  cases k with
  | inc | dec => cases h; exact ⟨_, _, rfl⟩
  | asl | lsr | rol | ror => cases h; exact ⟨_, _, _, rfl⟩
  | _ => cases h

theorem storedRegister_flags {k : Mnemonic} {r : CpuState → Byte} (h : storedRegister k = some r) (p : Flags) :
    FlagsAfter p p k := by
  cases k with
  | sta | stx | sty => rfl
  | _ => cases h

theorem branchTaken_flags {k : Mnemonic} {b : Bool} {p : Flags} (h : branchTaken p k = some b) : FlagsAfter p p k := by
  cases k with
  | bcc | bcs | beq | bmi | bne | bpl | bvc | bvs => rfl
  | _ => cases h

theorem State.push_p (s : State) (v : Byte) : (s.push v).cpu.p = s.cpu.p := by rw [State.push_cpu]

theorem impliedStep_flags {k : Mnemonic} {g : State → State} (h : impliedStep k = some g) (s : State) :
    FlagsAfter s.cpu.p (g s).cpu.p k := by
  cases k with
  | inx | iny | dex | dey | tax | tay | txa | tya | tsx | pla => cases h; exact ⟨_, _, rfl⟩
  | clc | sec | cli | sei | cld | sed | clv => cases h; exact ⟨_, rfl⟩
  | txs | nop => cases h; rfl
  | pha | php => cases h; exact s.push_p _
  | plp => trivial
  | _ => cases h

/-- What a CPU instruction may make of the flags. -/
theorem CpuForm.flags {k : Mnemonic} {x : State → Host.Outcome State Fault Refusal} (hx : CpuForm k x) {s t : State}
    (h : x s = .next t) : FlagsAfter s.cpu.p t.cpu.p k := by
  cases hx with
  | read hk c o => exact readOp_next h ▸ readStep_flags hk (s.operand o) s
  | store hk c m =>
    rw [storeOp_next h, State.retire_cpu, State.write_cpu]
    exact storedRegister_flags hk s.cpu.p
  | modify hk c m => exact modifyMem_next h ▸ modifyResult_flags hk s.cpu.p (s.read (s.effAddr m))
  | shift hk c => exact modifyAcc_next h ▸ modifyResult_flags hk s.cpu.p s.cpu.a
  | implied hk c => exact impliedOp_next h ▸ impliedStep_flags hk s
  | branch hk off =>
    obtain ⟨pc, n, rfl⟩ := branchOp_next h
    exact branchTaken_flags (hk s.cpu.p)
  | jmpAbs w | jmpInd w =>
    cases h
    rfl
  | jsr w =>
    cases h
    show (s.pushWord (s.cpu.pc + 2)).cpu.p = s.cpu.p
    rw [State.pushWord_cpu]
  | rts =>
    cases h
    rfl
  | brk =>
    cases h
    obtain ⟨-, -, -, pc, he⟩ := s.enterVector_frame (s.cpu.pc + 2) true irqVector
    refine ⟨true, ?_⟩
    rw [State.setCycles_p, he]
  | rti => trivial

/-- Settles O54: the table by instructions gives the table by flags. -/
theorem flagWriters : Obligations.FlagWriters := by
  intro i s t k md hv h
  have hq : FlagsAfter s.cpu.p t.cpu.p k := (exec_form hv).flags h
  generalize s.cpu.p = p, t.cpu.p = q at hq ⊢
  cases k with
  | adc | sbc =>
    obtain ⟨n, v, z, c, rfl⟩ := hq
    simp
  | cmp | cpx | cpy | asl | lsr | rol | ror =>
    obtain ⟨n, z, c, rfl⟩ := hq
    simp
  | bit =>
    obtain ⟨n, v, z, rfl⟩ := hq
    simp
  | and | ora | eor | inc | dec | inx | iny | dex | dey | lda | ldx | ldy | tax | tay | txa | tya | tsx | pla =>
    obtain ⟨n, z, rfl⟩ := hq
    simp
  | clc | sec | cli | sei | brk | cld | sed | clv =>
    obtain ⟨b, rfl⟩ := hq
    simp
  | plp | rti => simp
  | _ =>
    obtain rfl : q = p := hq
    simp

/-! Clearing the break flag. -/

/-- What `State.forgetB` makes of the flags. -/
def Flags.clearB (p : Flags) : Flags := { p with b := false }

theorem State.forgetB_eq (s : State) : s.forgetB = s.setP s.cpu.p.clearB := rfl

@[simp] theorem State.forgetB_forgetB (s : State) : s.forgetB.forgetB = s.forgetB := rfl

/-! Clearing B commutes with every update of the state. -/

theorem State.forgetB_setA (s : State) (v : Byte) : s.forgetB.setA v = (s.setA v).forgetB := rfl
theorem State.forgetB_setPC (s : State) (w : Word) : s.forgetB.setPC w = (s.setPC w).forgetB := rfl
theorem State.forgetB_setP (s : State) (p : Flags) : s.forgetB.setP p.clearB = (s.setP p).forgetB := rfl
theorem State.forgetB_setCycles (s : State) (n : Nat) : s.forgetB.setCycles n = (s.setCycles n).forgetB := rfl
theorem State.forgetB_retire (s : State) (l c : Nat) : s.forgetB.retire l c = (s.retire l c).forgetB := rfl

/-- A Bus read does not see the flags. -/
@[simp] theorem State.forgetB_read (s : State) (a : Word) : s.forgetB.read a = s.read a :=
  State.read_congr rfl rfl rfl rfl rfl rfl rfl rfl a

@[simp] theorem State.forgetB_effAddr (s : State) (m : MemMode) : s.forgetB.effAddr m = s.effAddr m := by
  cases m <;> simp only [State.effAddr, State.baseAddr, State.zpPointer, State.forgetB_read] <;> rfl

@[simp] theorem State.forgetB_crossed (s : State) (m : MemMode) : s.forgetB.crossed m = s.crossed m := by
  have hbase : s.forgetB.baseAddr m = s.baseAddr m := by
    cases m <;> simp only [State.baseAddr, State.zpPointer, State.forgetB_read] <;> rfl
  simp only [State.crossed, State.forgetB_effAddr, hbase]

@[simp] theorem State.forgetB_operand (s : State) (o : Operand) : s.forgetB.operand o = s.operand o := by
  cases o <;> simp [State.operand]

@[simp] theorem State.forgetB_readPenalty (s : State) (o : Operand) : s.forgetB.readPenalty o = s.readPenalty o := by
  cases o <;> simp [State.readPenalty]

/-- A Bus write neither sees nor changes the flags. -/
theorem State.forgetB_write (s : State) (a : Word) (v : Byte) : s.forgetB.write a v = (s.write a v).forgetB := by
  simp only [State.write, State.forgetB, State.setP_bus]
  split <;> rfl

theorem State.forgetB_push (s : State) (v : Byte) : s.forgetB.push v = (s.push v).forgetB :=
  congrArg (fun t => t.setS (s.cpu.s - 1)) (s.forgetB_write (stackAddr s.cpu.s) v)

theorem State.forgetB_pushWord (s : State) (w : Word) : s.forgetB.pushWord w = (s.pushWord w).forgetB := by
  simp only [State.pushWord, State.forgetB_push]

/-- A pushed status byte has the break bit that its push says, not B (10_state R46). -/
theorem Flags.pack_clearB (p : Flags) (b : Bool) : p.clearB.pack b = p.pack b := rfl

/-- Taking an exception pushes no B and keeps it. -/
theorem State.forgetB_enterVector (s : State) (ret : Word) (brk : Bool) (vec : Word) :
    s.forgetB.enterVector ret brk vec = (s.enterVector ret brk vec).forgetB := by
  have hpush : (s.forgetB.pushWord ret).push (s.forgetB.cpu.p.pack brk) =
      ((s.pushWord ret).push (s.cpu.p.pack brk)).forgetB := by
    have hpack : s.forgetB.cpu.p.pack brk = s.cpu.p.pack brk := s.cpu.p.pack_clearB brk
    rw [State.forgetB_pushWord, State.forgetB_push, hpack]
  simp only [State.enterVector, hpush, State.read16, State.forgetB_read]
  rfl

theorem State.forgetB_interruptEntry (s : State) (vec : Word) :
    s.forgetB.interruptEntry vec = (s.interruptEntry vec).forgetB :=
  congrArg (fun t => t.setCycles 7) (s.forgetB_enterVector s.cpu.pc false vec)

/-! The functions of the mnemonics do not see B. -/

theorem adcResult_clearB (a m : Byte) (p : Flags) :
    adcResult a m p.clearB = ((adcResult a m p).1, (adcResult a m p).2.clearB) := by
  have hd : p.clearB.d = p.d := rfl
  simp only [adcResult, hd]
  split <;> rfl

theorem modifyResult_clearB {k : Mnemonic} {f : Flags → Byte → Byte × Flags} (h : modifyResult k = some f) (p : Flags)
    (v : Byte) : f p.clearB v = ((f p v).1, (f p v).2.clearB) := by
  cases k with
  | inc | dec | asl | lsr | rol | ror => cases h; rfl
  | _ => cases h

theorem readStep_forgetB {k : Mnemonic} {f : Byte → State → State} (h : readStep k = some f) (m : Byte) (s : State) :
    f m s.forgetB = (f m s).forgetB := by
  cases k with
  | adc =>
    cases h
    have hr := adcResult_clearB s.cpu.a m s.cpu.p
    rw [State.forgetB_eq]
    simp only [adcStep, State.setP_a, State.setP_p, hr]
    rfl
  | sbc | cmp | cpx | cpy | and | ora | eor | bit | lda | ldx | ldy => cases h; rfl
  | _ => cases h

/-- The one thing that may come of B is that PLP sets it from the stack, whatever it was. -/
theorem impliedStep_forgetB {k : Mnemonic} {g : State → State} (h : impliedStep k = some g) (s : State) :
    (g s.forgetB).forgetB = (g s).forgetB := by
  cases k with
  | pha => cases h; exact (congrArg State.forgetB (s.forgetB_push s.cpu.a)).trans (State.forgetB_forgetB _)
  | php => cases h; exact (congrArg State.forgetB (s.forgetB_push (s.cpu.p.pack true))).trans (State.forgetB_forgetB _)
  | pla =>
    cases h
    have hp : s.forgetB.pulled = s.pulled := s.forgetB_read _
    simp only [plaStep, hp]
    rfl
  | plp =>
    cases h
    have hp : s.forgetB.pulled = s.pulled := s.forgetB_read _
    simp only [plpStep, hp]
    rfl
  | inx | iny | dex | dey | tax | tay | txa | tya | tsx | txs | nop | clc | sec | cli | sei | cld | sed | clv =>
    cases h
    rfl
  | _ => cases h

theorem storedRegister_forgetB {k : Mnemonic} {r : CpuState → Byte} (h : storedRegister k = some r) (s : State) :
    r s.forgetB.cpu = r s.cpu := by
  cases k with
  | sta | stx | sty => cases h; rfl
  | _ => cases h

theorem branchTaken_clearB (p : Flags) (k : Mnemonic) : branchTaken p.clearB k = branchTaken p k := by
  cases k <;> rfl

theorem branchOp_forgetB {b : Bool} {c : Nat} {off : Byte} {s t : State} (h : branchOp b c off s = .next t) :
    ∃ t', branchOp b c off s.forgetB = .next t' ∧ t'.forgetB = t.forgetB := by
  cases b <;> cases h <;> exact ⟨_, rfl, rfl⟩

/-- The outcome of a CPU instruction does not depend on B. -/
theorem CpuForm.forgetB {k : Mnemonic} {x : State → Host.Outcome State Fault Refusal} (hx : CpuForm k x) {s t : State}
    (h : x s = .next t) : ∃ t', x s.forgetB = .next t' ∧ t'.forgetB = t.forgetB := by
  cases hx with
  | read hk c o =>
    refine ⟨_, rfl, ?_⟩
    rw [readOp_next h, State.forgetB_operand, State.forgetB_readPenalty, readStep_forgetB hk,
      State.forgetB_retire, State.forgetB_forgetB]
  | store hk c m =>
    refine ⟨_, rfl, ?_⟩
    rw [storeOp_next h, State.forgetB_effAddr, storedRegister_forgetB hk, State.forgetB_write,
      State.forgetB_retire, State.forgetB_forgetB]
  | @modify _ f hk c m =>
    have hf : f s.forgetB.cpu.p (s.read (s.effAddr m)) = _ := modifyResult_clearB hk s.cpu.p (s.read (s.effAddr m))
    refine ⟨_, rfl, ?_⟩
    simp only [modifyMem_next h, State.forgetB_effAddr, State.forgetB_read, hf, State.forgetB_write,
      State.forgetB_setP, State.forgetB_retire, State.forgetB_forgetB]
  | @shift _ f hk c =>
    have hf : f s.forgetB.cpu.p s.forgetB.cpu.a = _ := modifyResult_clearB hk s.cpu.p s.cpu.a
    refine ⟨_, rfl, ?_⟩
    simp only [modifyAcc_next h, hf, State.forgetB_setA, State.forgetB_setP, State.forgetB_retire, State.forgetB_forgetB]
  | implied hk c =>
    refine ⟨_, rfl, ?_⟩
    rw [impliedOp_next h]
    exact congrArg (fun u => u.retire 1 c) (impliedStep_forgetB hk s)
  | @branch _ b hk off =>
    have hb : b s.forgetB.cpu.p = b s.cpu.p :=
      Option.some.inj ((hk _).symm.trans ((branchTaken_clearB s.cpu.p k).trans (hk _)))
    show ∃ t', branchOp (b s.forgetB.cpu.p) 2 off s.forgetB = .next t' ∧ t'.forgetB = t.forgetB
    rw [hb]
    exact branchOp_forgetB h
  | jmpAbs w =>
    cases h
    exact ⟨_, rfl, rfl⟩
  | jmpInd w =>
    cases h
    have ht : s.forgetB.indirectTarget w = s.indirectTarget w := by
      simp only [State.indirectTarget, State.forgetB_read]
    refine ⟨_, rfl, ?_⟩
    rw [ht, State.forgetB_setPC, State.forgetB_setCycles, State.forgetB_forgetB]
  | jsr w =>
    cases h
    have hp : s.forgetB.pushWord (s.forgetB.cpu.pc + 2) = (s.pushWord (s.cpu.pc + 2)).forgetB := s.forgetB_pushWord _
    refine ⟨_, rfl, ?_⟩
    rw [hp, State.forgetB_read, State.forgetB_setPC, State.forgetB_setCycles, State.forgetB_forgetB]
    rfl
  | rts =>
    cases h
    refine ⟨_, rfl, ?_⟩
    simp only [State.pulled]
    rw [State.forgetB_read]
    rfl
  | brk =>
    cases h
    have he : s.forgetB.enterVector (s.forgetB.cpu.pc + 2) true irqVector =
        (s.enterVector (s.cpu.pc + 2) true irqVector).forgetB := s.forgetB_enterVector (s.cpu.pc + 2) true irqVector
    refine ⟨_, rfl, ?_⟩
    rw [he, State.forgetB_setCycles, State.forgetB_forgetB]
  | rti =>
    cases h
    refine ⟨_, rfl, ?_⟩
    simp only [State.returnFromInterrupt_eq, State.forgetB_read]
    rfl

/-- The fetch does not see B. -/
theorem State.forgetB_fetchBytes (s : State) : s.forgetB.fetchBytes = s.fetchBytes := by
  simp only [State.fetchBytes, State.forgetB_read]
  rfl

theorem cpuInstruction_forgetB {s t : State} (h : cpuInstruction s = .next t) :
    ∃ t', cpuInstruction s.forgetB = .next t' ∧ t'.forgetB = t.forgetB := by
  unfold cpuInstruction at h ⊢
  rw [State.forgetB_fetchBytes]
  rcases hd : decode .cpu s.fetchBytes with e | ⟨i, rest⟩ <;> rw [hd] at h
  · cases h
    refine ⟨_, rfl, ?_⟩
    simp only [State.raiseDecodeFault, State.forgetB_read]
    rfl
  · have hi : i.isa = .cpu := fetch_isa hd
    rcases hv : i.view with ⟨k, md⟩ | op
    · exact (exec_form hv).forgetB h
    · rw [Instr.isa, hv] at hi
      exact Isa.noConfusion hi

theorem State.forgetB_pollInterrupt (s : State) : s.forgetB.pollInterrupt = s.pollInterrupt.map State.forgetB := by
  have hnmi : (s.forgetB.setNmi false).interruptEntry nmiVector = _ := (s.setNmi false).forgetB_interruptEntry nmiVector
  have hirq : (s.forgetB.setIrq false).interruptEntry irqVector = _ := (s.setIrq false).forgetB_interruptEntry irqVector
  have hn : s.forgetB.cpu.nmiPending = s.cpu.nmiPending := rfl
  have hq : s.forgetB.cpu.irqPending = s.cpu.irqPending := rfl
  have hi : s.forgetB.cpu.p.i = s.cpu.p.i := rfl
  simp only [State.pollInterrupt, hnmi, hirq, hn, hq, hi]
  split
  · rfl
  · split <;> rfl

/-- Settles O55: an interrupt entry pushes a break bit of its own, and each instruction's form is blind to B. -/
theorem breakFlagUnobservable : Obligations.BreakFlagUnobservable := by
  intro s t h
  unfold cpuStep at h ⊢
  rw [State.forgetB_pollInterrupt]
  rcases hp : s.pollInterrupt with _ | u <;> rw [hp] at h
  · exact cpuInstruction_forgetB h
  · cases h
    exact ⟨_, rfl, State.forgetB_forgetB _⟩

end Sys2Proof.Machine

/-! Bit 15, the default map's rows, and the registers' bytes, for the statements about the Bus. -/

namespace Sys2Proof.Machine

/-! Bit 15 is not decoded: an access depends on the address modulo 0x8000 only (20_memory R112). -/

theorem MemoryMap.classify_congr (m : MemoryMap) {a b : Word} (h : a.toNat % 0x8000 = b.toNat % 0x8000) :
    m.classify a = m.classify b := congrArg m.regionAt h

theorem mirror_congr {a b : Word} (h : a.toNat % 0x8000 = b.toNat % 0x8000) : mirror a = mirror b :=
  congrArg (BitVec.ofNat 16) h

theorem mirror_eq {a m : Word} (h : m.toNat = a.toNat % 0x8000) : mirror a = m := by
  rw [mirror, ← h, BitVec.ofNat_toNat, BitVec.setWidth_eq]

theorem State.read_mirrored (s : State) {a b : Word} (h : a.toNat % 0x8000 = b.toNat % 0x8000) : s.read a = s.read b := by
  simp only [State.read, s.bus.map.classify_congr h, mirror_congr h]

theorem State.write_mirrored (s : State) {a b : Word} (h : a.toNat % 0x8000 = b.toNat % 0x8000) (v : Byte) :
    s.write a v = s.write b v := by
  simp only [State.write, s.bus.map.classify_congr h, mirror_congr h]

/-! An address written as a number below 0x8000. -/

theorem toNat_ofNat_of_low {k : Nat} (h : k < 0x8000) : (BitVec.ofNat 16 k).toNat = k := by
  rw [BitVec.toNat_ofNat]
  omega

theorem MemoryMap.classify_ofNat (m : MemoryMap) {k : Nat} (h : k < 0x8000) :
    m.classify (BitVec.ofNat 16 k) = m.regionAt k := by
  rw [MemoryMap.classify, toNat_ofNat_of_low h, Nat.mod_eq_of_lt h]

theorem mirror_ofNat {k : Nat} (h : k < 0x8000) : mirror (BitVec.ofNat 16 k) = BitVec.ofNat 16 k :=
  mirror_eq (by rw [toNat_ofNat_of_low h, Nat.mod_eq_of_lt h])

/-- Equality with a branching value, branch by branch. -/
theorem eq_ite {α : Type} {c : Prop} [Decidable c] {x a b : α} (ht : c → x = a) (he : ¬c → x = b) :
    x = if c then a else b :=
  (ite_eq_iff'.2 ⟨fun h => (ht h).symm, fun h => (he h).symm⟩).symm

/-! The rows of the default map, by what they name (20_memory R111). -/

/-- An address that no row holds is unmapped (20_memory R101). -/
theorem MemoryMap.regionAt_of_no_row {m : MemoryMap} {k : Nat} (h : ∀ r ∈ m.rows, k < r.first ∨ r.last < k) :
    m.regionAt k = .unmapped := by
  rcases m.regionAt_cases k with ⟨r, hr, h1, h2, -⟩ | ⟨-, hu⟩
  · have := h r hr
    omega
  · exact hu

/-- `defaultMemoryMap_row` with the row's bounds as numbers, not as its fields, so that `omega` reads the offset. -/
theorem defaultMemoryMap_regionAt {k first last : Nat} {g : Region} (hr : ⟨first, last, g⟩ ∈ defaultMemoryMap.rows)
    (h1 : first ≤ k) (h2 : k ≤ last) : defaultMemoryMap.regionAt k = g.plus (k - first) :=
  defaultMemoryMap_row hr h1 h2

/-- Pages 0 and 1, page 2 and page 3 are three rows that back one stretch of RAM. -/
theorem defaultMemoryMap_ram {k : Nat} (h : k ≤ 0x3FF) : defaultMemoryMap.regionAt k = .ram k := by
  have row {first last : Nat} (hr : ⟨first, last, .ram first⟩ ∈ defaultMemoryMap.rows) (h1 : first ≤ k) (h2 : k ≤ last) :
      defaultMemoryMap.regionAt k = .ram k :=
    (defaultMemoryMap_regionAt (g := .ram first) hr h1 h2).trans (congrArg Region.ram (Nat.add_sub_cancel' h1))
  rcases Nat.lt_or_ge k 0x200 with h2 | h2
  · exact row (first := 0x000) (by decide) (Nat.zero_le k) (Nat.le_of_lt_succ h2)
  · rcases Nat.lt_or_ge k 0x300 with h3 | h3
    · exact row (by decide) h2 (Nat.le_of_lt_succ h3)
    · exact row (by decide) h3 h

theorem defaultMemoryMap_in0 {k : Nat} (h : 0x2000 ≤ k ∧ k ≤ 0x2007) : defaultMemoryMap.regionAt k = .in0 (k - 0x2000) :=
  (defaultMemoryMap_regionAt (g := .in0 0) (by decide) h.1 h.2).trans (congrArg Region.in0 (Nat.zero_add _))

theorem defaultMemoryMap_in1 {k : Nat} (h : 0x2400 ≤ k ∧ k ≤ 0x2407) : defaultMemoryMap.regionAt k = .in1 (k - 0x2400) :=
  (defaultMemoryMap_regionAt (g := .in1 0) (by decide) h.1 h.2).trans (congrArg Region.in1 (Nat.zero_add _))

theorem defaultMemoryMap_dsw {k : Nat} (h : 0x2800 ≤ k ∧ k ≤ 0x2803) : defaultMemoryMap.regionAt k = .dsw (k - 0x2800) :=
  (defaultMemoryMap_regionAt (g := .dsw 0) (by decide) h.1 h.2).trans (congrArg Region.dsw (Nat.zero_add _))

theorem defaultMemoryMap_dmago : defaultMemoryMap.regionAt 0x3000 = .dmago := by decide

theorem defaultMemoryMap_latch : defaultMemoryMap.regionAt 0x3200 = .latch := by decide

theorem defaultMemoryMap_watchdog : defaultMemoryMap.regionAt 0x3400 = .watchdog := by decide

theorem defaultMemoryMap_sound {k : Nat} (h : k = 0x3600 ∨ k = 0x3A00 ∨ (0x3C00 ≤ k ∧ k ≤ 0x3C07) ∨ k = 0x3E00) :
    defaultMemoryMap.regionAt k = .sound := by
  rcases h with rfl | rfl | ⟨h1, h2⟩ | rfl
  · decide
  · decide
  · exact defaultMemoryMap_regionAt (g := .sound) (by decide) h1 h2
  · decide

theorem defaultMemoryMap_vram {k : Nat} (h : 0x4000 ≤ k ∧ k ≤ 0x47FF) : defaultMemoryMap.regionAt k = .vram (k - 0x4000) :=
  (defaultMemoryMap_regionAt (g := .vram 0) (by decide) h.1 h.2).trans (congrArg Region.vram (Nat.zero_add _))

theorem defaultMemoryMap_vectorRom {k : Nat} (h : 0x5000 ≤ k ∧ k ≤ 0x57FF) :
    defaultMemoryMap.regionAt k = .rom (k - 0x5000) :=
  (defaultMemoryMap_regionAt (g := .rom 0) (by decide) h.1 h.2).trans (congrArg Region.rom (Nat.zero_add _))

theorem defaultMemoryMap_programRom {k : Nat} (h1 : 0x6800 ≤ k) (h2 : k < 0x8000) :
    defaultMemoryMap.regionAt k = .rom (k - 0x6000) :=
  (defaultMemoryMap_regionAt (g := .rom 0x800) (by decide) h1 (Nat.le_of_lt_succ h2)).trans (congrArg Region.rom (by omega))

/-- The two gaps of the Vector Processor's space (20_memory R107, R111). -/
theorem defaultMemoryMap_vpGap {k : Nat} (h : (0x4800 ≤ k ∧ k < 0x5000) ∨ (0x5800 ≤ k ∧ k < 0x6000)) :
    defaultMemoryMap.regionAt k = .unmapped := by
  refine MemoryMap.regionAt_of_no_row ?_
  simp only [defaultMemoryMap, List.forall_mem_cons, List.not_mem_nil, false_implies, implies_true, and_true]
  omega

theorem Region.isRam_plus (r : Region) (j : Nat) : (r.plus j).isRam = r.isRam := by
  cases r <;> rfl

/-- Where the default map names a RAM, it is work RAM at its own address, or vector RAM from 0x4000 on. -/
theorem defaultMemoryMap_isRam {k : Nat} (h : (defaultMemoryMap.regionAt k).isRam = true) :
    defaultMemoryMap.regionAt k = .ram k ∨ (0x4000 ≤ k ∧ defaultMemoryMap.regionAt k = .vram (k - 0x4000)) := by
  have hrows : ∀ r ∈ defaultMemoryMap.rows, r.region.isRam = true →
      r.region = .ram r.first ∨ (r.first = 0x4000 ∧ r.region = .vram 0) := by decide
  rcases defaultMemoryMap.regionAt_cases k with ⟨r, hr, h1, -, h3⟩ | ⟨-, h3⟩ <;> rw [h3] at h ⊢
  · rw [Region.isRam_plus] at h
    rcases hrows r hr h with e | ⟨e0, e⟩ <;> rw [e]
    · exact .inl (congrArg Region.ram (Nat.add_sub_cancel' h1))
    · rw [e0] at h1 ⊢
      exact .inr ⟨h1, congrArg Region.vram (Nat.zero_add _)⟩
  · exact absurd h Bool.false_ne_true

/-- The default map backs no two offsets of the 32 KB with one byte of a RAM (20_memory R111). -/
theorem defaultMemoryMap_ram_inj {j k : Nat} (hr : (defaultMemoryMap.regionAt j).isRam = true)
    (h : defaultMemoryMap.regionAt j = defaultMemoryMap.regionAt k) : j = k := by
  rcases defaultMemoryMap_isRam hr with ej | ⟨lj, ej⟩ <;> rcases defaultMemoryMap_isRam (h ▸ hr) with ek | ⟨lk, ek⟩ <;>
    rw [ej, ek] at h
  · exact Region.ram.inj h
  · exact Region.noConfusion h
  · exact Region.noConfusion h
  · have := Region.vram.inj h
    omega

/-- The class of an address written as a number, in a machine that has the default map. -/
theorem State.classify_default {s : State} (hm : s.bus.map = defaultMemoryMap) {k : Nat} (h : k < 0x8000) :
    s.bus.map.classify (BitVec.ofNat 16 k) = defaultMemoryMap.regionAt k :=
  hm ▸ MemoryMap.classify_ofNat _ h

/-! The RAM page swap (20_memory R113). -/

theorem ramIndex_clear {l : Byte} (h : l.getLsbD 2 = false) (k : Nat) : ramIndex l k = k :=
  if_neg (h ▸ Bool.false_ne_true)

theorem ramIndex_page2 {l : Byte} (h : l.getLsbD 2 = true) {k : Nat} (hk : k < 256) :
    ramIndex l (0x200 + k) = 0x300 + k := by
  rw [ramIndex, if_pos h, if_pos (by omega)]
  omega

theorem ramIndex_page3 {l : Byte} (h : l.getLsbD 2 = true) {k : Nat} (hk : k < 256) :
    ramIndex l (0x300 + k) = 0x200 + k := by
  rw [ramIndex, if_pos h, if_neg (by omega), if_pos (by omega)]
  omega

/-- Work RAM under the default map: which byte an access reads and writes. -/
theorem State.ram_access {s : State} (hm : s.bus.map = defaultMemoryMap) {k : Nat} (hk : k ≤ 0x3FF) (v : Byte) :
    s.read (BitVec.ofNat 16 k) = s.bus.ram.get (ramIndex s.bus.outLatch k) ∧
    (s.write (BitVec.ofNat 16 k) v).bus.ram = s.bus.ram.set (ramIndex s.bus.outLatch k) v := by
  have hc := (State.classify_default hm (by omega)).trans (defaultMemoryMap_ram hk)
  rw [State.read_at_ram hc, State.write_at_ram hc]
  exact ⟨rfl, rfl⟩

/-! ROM (20_memory R103). -/

theorem State.rom_access {s : State} {a : Word} {k : Nat} (h : s.bus.map.classify a = .rom k) (v : Byte) :
    s.read a = s.bus.rom.get k ∧ s.write a v = s :=
  ⟨State.read_at_rom h, State.write_at_rom h v⟩

/-- No step changes the image or the map: the CPU's step keeps both, and the Vector Processor never writes. -/
theorem step_keeps_rom_map {s t : State} (h : step s = .next t) : t.bus.rom = s.bus.rom ∧ t.bus.map = s.bus.map := by
  obtain ⟨-, ⟨-, u, hu, rfl⟩ | ⟨-, u, hu, rfl⟩⟩ := step_cases h
  · obtain ⟨-, -, hrom, -, hmap⟩ := s.beginFrame_stores
    have hk := cpuStep_keeps hu
    rw [State.afterCpuStep_bus]
    exact ⟨hk.rom.trans hrom, hk.map.trans hmap⟩
  · rw [State.afterVpInstr_bus, (exec_vpFrame s.vpFetch_isa hu).bus]
    exact ⟨rfl, rfl⟩

/-! The driven and the undriven bits of a switch register (20_memory R114). -/

theorem lineByte_toNat (line : Bool) (a : Word) :
    (lineByte line a).toNat = 128 * line.toNat + (Config.openBus a).toNat % 128 := by
  have hline : (BitVec.ofNat 8 (line.toNat * 128)).toNat = 128 * line.toNat := by cases line <;> rfl
  have hbus : (Config.openBus a &&& 0x7F).toNat = (Config.openBus a).toNat % 128 := by
    rw [BitVec.toNat_and]
    exact Nat.and_two_pow_sub_one_eq_mod _ 7
  rw [lineByte, BitVec.toNat_or, hline, hbus]
  exact (Nat.two_pow_add_eq_or_of_lt (i := 7) (Nat.mod_lt _ (by decide)) _).symm

theorem dipByte_toNat (dip : Byte) (n : Nat) (a : Word) :
    (dipByte dip n a).toNat = dip.toNat / 4 ^ (3 - n) % 4 + (Config.openBus a).toNat / 4 * 4 := by
  have hdip : ((dip >>> (2 * (3 - n))) &&& 3).toNat = dip.toNat / 4 ^ (3 - n) % 4 := by
    rw [BitVec.toNat_and, BitVec.toNat_ushiftRight, Nat.shiftRight_eq_div_pow, Nat.pow_mul]
    exact Nat.and_two_pow_sub_one_eq_mod _ 2
  have hmask : ∀ o : Byte, (o &&& 0xFC).toNat = 2 ^ 2 * (o.toNat / 4) := by decide
  rw [dipByte, BitVec.toNat_or, hdip, hmask, Nat.or_comm,
    ← Nat.two_pow_add_eq_or_of_lt (i := 2) (Nat.mod_lt _ (by decide))]
  omega

/-! The bytes of a word of the Vector Processor's space (20_memory R107). -/

theorem State.vpRead_eq (s : State) (w : VAddr) :
    s.vpRead w =
      w16 (s.read (BitVec.ofNat 16 (0x4000 + 2 * w.toNat))) (s.read (BitVec.ofNat 16 (0x4000 + (2 * w.toNat + 1)))) := by
  have hnext : vpByteAddr w + 1 = BitVec.ofNat 16 (0x4000 + (2 * w.toNat + 1)) := (BitVec.ofNat_add _ 1).symm
  rw [State.vpRead, hnext, vpByteAddr]

end Sys2Proof.Machine

/-! The statements about the Bus: O16 to O24. -/

namespace Sys2Proof.Machine

/-- Settles O16: what a write stores, by `State.write_storedByte`; the rest of the machine by the RAM that is written. -/
theorem ramReadsBack : Obligations.RamReadsBack := by
  intro s a v k hs hc
  have hstored := State.write_storedByte hs a v
  have hback : (s.write a v).read a = v := hstored.readBack k hc
  have hmirror : (a + 0x8000).toNat % 0x8000 = a.toNat % 0x8000 := by
    rw [BitVec.toNat_add]
    simp only [BitVec.reduceToNat]
    omega
  have hdmago : s.bus.map.classify a ≠ .dmago := by rcases hc with hc | hc <;> simp [hc]
  have hlatch : s.bus.map.classify a ≠ .latch := by rcases hc with hc | hc <;> simp [hc]
  refine ⟨hback, (State.read_mirrored _ hmirror).trans hback, hstored.elsewhere hdmago hlatch, s.write_cpu a v,
    hstored.noTrigger hdmago, s.write_sched a v, ?_⟩
  rcases hc with hc | hc
  · rw [State.write_at_ram hc]
    rfl
  · rw [State.write_at_vram hc]
    rfl

/-- Settles O17: the access by the address's class, and the default map's two rows of ROM. -/
theorem romAccess : Obligations.RomAccess := by
  refine ⟨fun s a v k h => State.rom_access h v, fun s a v hm => ⟨fun h1 h2 => ?_, fun h1 => ?_⟩,
    fun s t => step_keeps_rom_map⟩
  · exact State.rom_access (hm ▸ defaultMemoryMap_vectorRom ⟨h1, h2⟩) v
  · exact State.rom_access (hm ▸ defaultMemoryMap_programRom h1 (Nat.mod_lt _ (by decide))) v

/-- Settles O18: the table's branches are the rows of the default map, in order, and what is left lies in no row. -/
theorem addressMap : Obligations.AddressMap := by
  refine ⟨fun m a k hw hk => ?_, rfl, fun a b => decide_eq_decide.2 ⟨fun h => ?_, .inl⟩, fun a k hk => ?_⟩
  · rw [MemoryMap.classify, ← hk]
    exact ⟨fun r hr => MemoryMap.regionAt_row hw.ordered hr, MemoryMap.regionAt_of_no_row⟩
  · rcases h with h | ⟨hr, h⟩
    · exact h
    · exact defaultMemoryMap_ram_inj hr h
  · have hlt : k < 0x8000 := hk ▸ Nat.mod_lt _ (by decide)
    rw [MemoryMap.classify, ← hk]
    refine eq_ite defaultMemoryMap_ram fun _ => eq_ite defaultMemoryMap_in0 fun _ => eq_ite defaultMemoryMap_in1 fun _ =>
      eq_ite defaultMemoryMap_dsw fun _ => eq_ite (fun h => h ▸ defaultMemoryMap_dmago) fun _ =>
      eq_ite (fun h => h ▸ defaultMemoryMap_latch) fun _ => eq_ite (fun h => h ▸ defaultMemoryMap_watchdog) fun _ =>
      eq_ite defaultMemoryMap_sound fun _ => eq_ite defaultMemoryMap_vram fun _ =>
      eq_ite defaultMemoryMap_vectorRom fun _ => eq_ite (fun h => defaultMemoryMap_programRom h hlt) fun _ =>
      MemoryMap.regionAt_of_no_row ?_
    simp only [defaultMemoryMap, List.forall_mem_cons, List.not_mem_nil, false_implies, implies_true, and_true]
    omega

/-- Settles O19: each class on its own. -/
theorem openBus : Obligations.OpenBus := by
  intro s a m v h
  rw [← mirror_eq h]
  refine ⟨fun hc => ⟨State.read_at_unmapped hc, State.write_at_unmapped hc v⟩, fun hc => ?_, fun n hc => ?_⟩
  · rcases hc with hc | hc | hc | hc
    · exact State.read_at_dmago hc
    · exact State.read_at_latch hc
    · exact State.read_at_watchdog hc
    · exact State.read_at_sound hc
  · rcases hc with hc | hc | hc
    · exact State.write_at_in0 hc v
    · exact State.write_at_in1 hc v
    · exact State.write_at_dsw hc v

/-- Settles O20: both addresses are one modulo 0x8000. -/
theorem mirrorRule : Obligations.Mirror := by
  refine ⟨fun s a v h => ?_, fun s k hm hk => State.read_at_rom (hm ▸ defaultMemoryMap_vector hk)⟩
  have hlow : a.toNat % 0x8000 = (a - 0x8000).toNat % 0x8000 := by
    rw [BitVec.toNat_sub]
    simp only [BitVec.reduceToNat]
    omega
  exact ⟨s.read_mirrored hlow, s.write_mirrored hlow v⟩

/-- Settles O21: each access by the byte of RAM that `ramIndex` names. -/
theorem ramPageSwap : Obligations.RamPageSwap := by
  intro s k v l hm hk
  obtain ⟨hread2, hwrite2⟩ := State.ram_access hm (k := 0x200 + k) (by omega) v
  obtain ⟨hread3, hwrite3⟩ := State.ram_access hm (k := 0x300 + k) (by omega) v
  rw [hread2, hread3, hwrite2, hwrite3]
  refine ⟨fun h => ?_, fun h => ?_, ?_⟩
  · rw [ramIndex_page2 h hk, ramIndex_page3 h hk]
    exact ⟨rfl, rfl, rfl, rfl⟩
  · rw [ramIndex_clear h, ramIndex_clear h]
    exact ⟨rfl, rfl, rfl, rfl⟩
  · rw [State.write_at_latch (hm ▸ defaultMemoryMap_latch)]
    rfl

/-- Settles O22: the lines as `State.in0Line` and `State.in1Line` have them, the bytes by their two disjoint parts. -/
theorem switchReads : Obligations.SwitchReads := by
  intro s n hm hn line0 line1 h0 h1
  have hline0 : line0 = s.in0Line n := by
    unfold State.in0Line
    rw [Nat.testBit_eq_decide_div_mod_eq]
    exact h0
  have hline1 : line1 = s.in1Line n := h1
  refine ⟨?_, ?_, fun h4 => ?_⟩
  · have hc := (State.classify_default hm (by omega)).trans (defaultMemoryMap_in0 (k := 0x2000 + n) (by omega))
    rw [State.read_at_in0 hc, lineByte_toNat, mirror_ofNat (by omega), Nat.add_sub_cancel_left, hline0]
  · have hc := (State.classify_default hm (by omega)).trans (defaultMemoryMap_in1 (k := 0x2400 + n) (by omega))
    rw [State.read_at_in1 hc, lineByte_toNat, mirror_ofNat (by omega), Nat.add_sub_cancel_left, hline1]
  · have hc := (State.classify_default hm (by omega)).trans (defaultMemoryMap_dsw (k := 0x2800 + n) (by omega))
    rw [State.read_at_dsw hc, dipByte_toNat, mirror_ofNat (by omega), Nat.add_sub_cancel_left]

/-- Settles O23: the write by the address's class; a sound register's address has no bit 15 to drop. -/
theorem deviceWrites : Obligations.DeviceWrites := by
  intro s v hm
  refine ⟨State.write_at_dmago (hm ▸ defaultMemoryMap_dmago) v, State.write_at_latch (hm ▸ defaultMemoryMap_latch) v,
    State.write_at_watchdog (hm ▸ defaultMemoryMap_watchdog) v, fun a ha => ?_⟩
  have hk : a.toNat = 0x3600 ∨ a.toNat = 0x3A00 ∨ (0x3C00 ≤ a.toNat ∧ a.toNat ≤ 0x3C07) ∨ a.toNat = 0x3E00 :=
    ha.imp (congrArg BitVec.toNat) (.imp (congrArg BitVec.toNat) (.imp id (congrArg BitVec.toNat)))
  have hlow : a.toNat = a.toNat % 0x8000 := by omega
  have hc : s.bus.map.classify a = .sound := by
    rw [hm, MemoryMap.classify, ← hlow, defaultMemoryMap_sound hk]
  rw [State.write_at_sound hc, mirror_eq hlow]
  rfl

/-- Settles O24: each range of words is one row of the map, or lies in a gap of it. -/
theorem vpWords : Obligations.VpWords := by
  intro s w hm
  have hw := w.isLt
  rw [State.vpRead_eq]
  refine ⟨fun h => ?_, fun h1 h2 => ?_, fun h => ?_⟩
  · have hread {j : Nat} (hj : j < 0x800) : s.read (BitVec.ofNat 16 (0x4000 + j)) = s.bus.vram.get j := by
      have hc := (State.classify_default hm (by omega)).trans (defaultMemoryMap_vram (k := 0x4000 + j) (by omega))
      rw [State.read_at_vram hc, Nat.add_sub_cancel_left]
    rw [hread (by omega), hread (by omega)]
  · have hread {j : Nat} (h1 : 0x1000 ≤ j) (h2 : j < 0x1800) :
        s.read (BitVec.ofNat 16 (0x4000 + j)) = s.bus.rom.get (j - 0x1000) := by
      have hc := (State.classify_default hm (by omega)).trans (defaultMemoryMap_vectorRom (k := 0x4000 + j) (by omega))
      have hoffset : 0x4000 + j - 0x5000 = j - 0x1000 := by omega
      rw [State.read_at_rom hc, hoffset]
    rw [hread (by omega) (by omega), hread (by omega) (by omega), Nat.sub_add_comm (by omega)]
  · have hread {j : Nat} (h : (0x800 ≤ j ∧ j < 0x1000) ∨ (0x1800 ≤ j ∧ j < 0x2000)) :
        s.read (BitVec.ofNat 16 (0x4000 + j)) = Config.openBus (BitVec.ofNat 16 (0x4000 + j)) := by
      have hc := (State.classify_default hm (by omega)).trans (defaultMemoryMap_vpGap (k := 0x4000 + j) (by omega))
      rw [State.read_at_unmapped hc, mirror_ofNat (by omega)]
    have hsucc : 0x4001 + 2 * w.toNat = 0x4000 + (2 * w.toNat + 1) := by omega
    rw [hread (by omega), hread (by omega), hsucc]

end Sys2Proof.Machine

/-! The decoders against the encoder: O1 to O4. -/

namespace Sys2Proof

/-! The CPU: an opcode byte and its operand bytes (30_encoding R161, R166). -/

/-- The encoder writes every instruction of a cell of the opcode map as `op` and the operand bytes of the cell's format. -/
def Form.EncodesAs (op : Byte) : Option Form → Prop
  | none => True
  | some (.f1 i) => encode i = [op]
  | some (.f2 mk) => ∀ b, encode (mk b) = [op, b]
  | some (.f3 mk) => ∀ w, encode (mk w) = [op, lo w, hi w]

/-- The opcode that the encoder writes for the instructions of a cell. -/
def Form.opcode : Option Form → Option Byte
  | none => none
  | some (.f1 i) => (encode i).head?
  | some (.f2 mk) => (encode (mk 0)).head?
  | some (.f3 mk) => (encode (mk 0)).head?

/-- Cell by cell, the operand bytes are the format's and the opcode does not depend on them. -/
theorem opcodeMap_encodesAs :
    ∀ row ∈ opcodeMap, ∀ f ∈ row, ∀ op, Form.opcode f = some op → Form.EncodesAs op f := by
  show ∀ row ∈ [opcodeRow0, opcodeRow1, opcodeRow2, opcodeRow3, opcodeRow4, opcodeRow5, opcodeRow6, opcodeRow7,
    opcodeRow8, opcodeRow9, opcodeRowA, opcodeRowB, opcodeRowC, opcodeRowD, opcodeRowE, opcodeRowF], _
  repeat' refine forall_mem_cons ?_ ?_
  all_goals first
    | exact forall_mem_nil
    | exact fun _ _ => trivial
    | exact fun _ h => Option.some.inj h ▸ rfl
    | exact fun _ h _ => Option.some.inj h ▸ rfl

/-- Each cell of the map stands at the opcode that the encoder writes for it. -/
theorem opcode_opcodeForm :
    ∀ op : Byte, Form.opcode (opcodeForm op) = if (opcodeForm op).isNone then none else some op := by
  decide

theorem opcodeForm_encodesAs (op : Byte) : Form.EncodesAs op (opcodeForm op) := by
  rcases ho : opcodeForm op with _ | f
  · trivial
  · have hf := opcodeForm_of_map (fun _ _ => trivial) opcodeMap_encodesAs op op
    have hop := opcode_opcodeForm op
    rw [ho] at hf hop
    exact hf hop

/-- What the CPU's decoder answers is made by the cell at the first byte, from the operand bytes of its format. -/
theorem decodeCpu_ok_cases {bs rest : List Byte} {i : Instr} (h : decodeCpu bs = .ok (i, rest)) :
    ∃ op, (opcodeForm op = some (.f1 i) ∧ bs = op :: rest) ∨
      (∃ mk b, opcodeForm op = some (.f2 mk) ∧ i = mk b ∧ bs = op :: b :: rest) ∨
      (∃ mk w, opcodeForm op = some (.f3 mk) ∧ i = mk w ∧ bs = op :: lo w :: hi w :: rest) := by
  rcases bs with _ | ⟨op, bs⟩
  · simp [decodeCpu] at h
  refine ⟨op, ?_⟩
  rcases ho : opcodeForm op with _ | ⟨j⟩ | ⟨mk⟩ | ⟨mk⟩ <;> simp only [decodeCpu, ho] at h
  · cases h
  · cases h
    exact .inl ⟨rfl, rfl⟩
  · rcases bs with _ | ⟨b1, bs⟩ <;> cases h
    exact .inr (.inl ⟨mk, b1, rfl, rfl, rfl⟩)
  · rcases bs with _ | ⟨b1, _ | ⟨b2, bs⟩⟩ <;> cases h
    exact .inr (.inr ⟨mk, w16 b1 b2, rfl, rfl, by rw [lo_w16, hi_w16]⟩)

/-- The bytes that the CPU's decoder takes are the encoding of what it answers. -/
theorem encode_of_decodeCpu {bs rest : List Byte} {i : Instr} (h : decodeCpu bs = .ok (i, rest)) :
    bs = encode i ++ rest := by
  obtain ⟨op, hcases⟩ := decodeCpu_ok_cases h
  have henc := opcodeForm_encodesAs op
  rcases hcases with ⟨ho, rfl⟩ | ⟨mk, b, ho, rfl, rfl⟩ | ⟨mk, w, ho, rfl, rfl⟩ <;> rw [ho] at henc
  · exact congrArg (· ++ rest) henc.symm
  · exact congrArg (· ++ rest) (henc b).symm
  · exact congrArg (· ++ rest) (henc w).symm

theorem decodeCpu_f1 {op : Byte} {i : Instr} (h : opcodeForm op = some (.f1 i)) (rest : List Byte) :
    decodeCpu (op :: rest) = .ok (i, rest) := by
  simp only [decodeCpu, h]

theorem decodeCpu_f2 {op : Byte} {mk : Byte → Instr} (h : opcodeForm op = some (.f2 mk)) (b : Byte) (rest : List Byte) :
    decodeCpu (op :: b :: rest) = .ok (mk b, rest) := by
  simp only [decodeCpu, h]

theorem decodeCpu_f3 {op : Byte} {mk : Word → Instr} (h : opcodeForm op = some (.f3 mk)) (w : Word) (rest : List Byte) :
    decodeCpu (op :: lo w :: hi w :: rest) = .ok (mk w, rest) := by
  simp only [decodeCpu, h, w16_lo_hi]

/-- The CPU's decoder inverts the encoder, by the format of the opcode's cell. -/
theorem decodeCpu_encode {i : Instr} (h : i.isa = .cpu) (rest : List Byte) : decodeCpu (encode i ++ rest) = .ok (i, rest) := by
  cases i with
  | aslAcc | lsrAcc | rolAcc | rorAcc | inx | iny | dex | dey | tax | tay | txa | tya | tsx | txs
  | rts | brk | rti | nop | pha | php | pla | plp | clc | sec | cli | sei | cld | sed | clv =>
    exact decodeCpu_f1 rfl rest
  | adcImm | adcZp | adcZpX | adcIndX | adcIndY | sbcImm | sbcZp | sbcZpX | sbcIndX | sbcIndY
  | cmpImm | cmpZp | cmpZpX | cmpIndX | cmpIndY | cpxImm | cpxZp | cpyImm | cpyZp | incZp | incZpX | decZp | decZpX
  | andImm | andZp | andZpX | andIndX | andIndY | oraImm | oraZp | oraZpX | oraIndX | oraIndY
  | eorImm | eorZp | eorZpX | eorIndX | eorIndY | bitZp
  | aslZp | aslZpX | lsrZp | lsrZpX | rolZp | rolZpX | rorZp | rorZpX
  | ldaImm | ldaZp | ldaZpX | ldaIndX | ldaIndY | ldxImm | ldxZp | ldxZpY | ldyImm | ldyZp | ldyZpX
  | staZp | staZpX | staIndX | staIndY | stxZp | stxZpY | styZp | styZpX
  | bcc | bcs | beq | bmi | bne | bpl | bvc | bvs =>
    exact decodeCpu_f2 rfl _ rest
  | adcAbs | adcAbsX | adcAbsY | sbcAbs | sbcAbsX | sbcAbsY | cmpAbs | cmpAbsX | cmpAbsY | cpxAbs | cpyAbs
  | incAbs | incAbsX | decAbs | decAbsX | andAbs | andAbsX | andAbsY | oraAbs | oraAbsX | oraAbsY
  | eorAbs | eorAbsX | eorAbsY | bitAbs | aslAbs | aslAbsX | lsrAbs | lsrAbsX | rolAbs | rolAbsX | rorAbs | rorAbsX
  | ldaAbs | ldaAbsX | ldaAbsY | ldxAbs | ldxAbsY | ldyAbs | ldyAbsX | staAbs | staAbsX | staAbsY | stxAbs | styAbs
  | jmpAbs | jmpInd | jsr =>
    exact decodeCpu_f3 rfl _ rest
  | _ => cases h

/-! The Vector Processor: the fields of its words (46_vector_processor R324). -/

theorem toNat_extractLsb' (w : Word) (k n : Nat) : (w.extractLsb' k n).toNat = w.toNat / 2 ^ k % 2 ^ n := by
  rw [BitVec.extractLsb'_toNat, Nat.shiftRight_eq_div_pow]

theorem toNat_getLsbD (w : Word) (k : Nat) : (w.getLsbD k).toNat = w.toNat / 2 ^ k % 2 := Nat.toNat_testBit w.toNat k

theorem extractLsb'_eq_iff {w : Word} {k n : Nat} {d : BitVec n} :
    w.extractLsb' k n = d ↔ w.toNat / 2 ^ k % 2 ^ n = d.toNat := by
  rw [← BitVec.toNat_inj, toNat_extractLsb']

theorem getLsbD_eq_iff {w : Word} {k : Nat} {b : Bool} : w.getLsbD k = b ↔ w.toNat / 2 ^ k % 2 = b.toNat := by
  rw [← toNat_getLsbD]
  exact ⟨congrArg Bool.toNat, fun h => by simpa using congrArg (· != 0) h⟩

/-- The opcode of a word, `w[15:12]`. -/
def vpOpcode (w : Word) : Nat := (w.extractLsb' 12 4).toNat

theorem vpOpcode_eq (w : Word) : vpOpcode w = w.toNat / 4096 := by
  have := w.isLt
  rw [vpOpcode, toNat_extractLsb']
  omega

/-- Either word of a VCTR, below its opcode or intensity `n`: an ignored bit, a sign and a magnitude. -/
def vctrWord (n : Nat) (u sign : Bool) (d : BitVec 10) : Word :=
  BitVec.ofNat 16 (n * 4096 + u.toNat * 2048 + sign.toNat * 1024 + d.toNat)

/-- A word of an opcode or scale `n` and a 12-bit field. -/
def fieldWord (n : Nat) (u : BitVec 12) : Word := BitVec.ofNat 16 (n * 4096 + u.toNat)

/-- The word of an SVEC. -/
def svecWord (f : SvecFields) : Word :=
  BitVec.ofNat 16 (15 * 4096 + f.s0.toNat * 2048 + f.ysign.toNat * 1024 + f.dyh.toNat * 256 +
    f.z.toNat * 16 + f.s1.toNat * 8 + f.xsign.toNat * 4 + f.dxh.toNat)

theorem vctrBytes_eq (n : Nat) (f : VctrFields) :
    vctrBytes n f = wordBytes (vctrWord n f.u0 f.ysign f.dy) ++ wordBytes (vctrWord f.z.toNat f.u1 f.xsign f.dx) := rfl

theorem labsBytes_eq (f : LabsFields) :
    labsBytes f = wordBytes (fieldWord 10 f.y) ++ wordBytes (fieldWord f.s.toNat f.x) := rfl

theorem svecBytes_eq (f : SvecFields) : svecBytes f = wordBytes (svecWord f) := rfl

theorem fieldBytes_eq (n : Nat) (u : BitVec 12) : fieldBytes n u = wordBytes (fieldWord n u) := rfl

section
variable {n : Nat}

theorem vctrWord_toNat (hn : n < 16) (u sign : Bool) (d : BitVec 10) :
    (vctrWord n u sign d).toNat = n * 4096 + u.toNat * 2048 + sign.toNat * 1024 + d.toNat := by
  have := u.toNat_lt
  have := sign.toNat_lt
  have := d.isLt
  rw [vctrWord, BitVec.toNat_ofNat]
  omega

theorem fieldWord_toNat (hn : n < 16) (u : BitVec 12) : (fieldWord n u).toNat = n * 4096 + u.toNat := by
  have := u.isLt
  rw [fieldWord, BitVec.toNat_ofNat]
  omega

/-- The fields of a VCTR's word are those it was made of. -/
theorem vctrWord_fields (hn : n < 16) (u sign : Bool) (d : BitVec 10) :
    vpOpcode (vctrWord n u sign d) = n ∧ (vctrWord n u sign d).getLsbD 11 = u ∧
    (vctrWord n u sign d).getLsbD 10 = sign ∧ (vctrWord n u sign d).extractLsb' 0 10 = d := by
  have := u.toNat_lt
  have := sign.toNat_lt
  have := d.isLt
  rw [vpOpcode_eq, getLsbD_eq_iff, getLsbD_eq_iff, extractLsb'_eq_iff, vctrWord_toNat hn]
  omega

theorem fieldWord_fields (hn : n < 16) (u : BitVec 12) :
    vpOpcode (fieldWord n u) = n ∧ (fieldWord n u).extractLsb' 0 12 = u := by
  have := u.isLt
  rw [vpOpcode_eq, extractLsb'_eq_iff, fieldWord_toNat hn]
  omega

end

theorem SvecFields.bounds (f : SvecFields) :
    f.s0.toNat < 2 ∧ f.ysign.toNat < 2 ∧ f.dyh.toNat < 4 ∧ f.z.toNat < 16 ∧ f.s1.toNat < 2 ∧ f.xsign.toNat < 2 ∧
    f.dxh.toNat < 4 :=
  ⟨f.s0.toNat_lt, f.ysign.toNat_lt, f.dyh.isLt, f.z.isLt, f.s1.toNat_lt, f.xsign.toNat_lt, f.dxh.isLt⟩

theorem svecWord_toNat (f : SvecFields) :
    (svecWord f).toNat = 15 * 4096 + f.s0.toNat * 2048 + f.ysign.toNat * 1024 + f.dyh.toNat * 256 +
      f.z.toNat * 16 + f.s1.toNat * 8 + f.xsign.toNat * 4 + f.dxh.toNat := by
  have := f.bounds
  rw [svecWord, BitVec.toNat_ofNat]
  omega

theorem vpOpcode_svecWord (f : SvecFields) : vpOpcode (svecWord f) = 15 := by
  have := f.bounds
  rw [vpOpcode_eq, svecWord_toNat]
  omega

theorem svecFields_svecWord (f : SvecFields) : svecFields (svecWord f) = f := by
  have hb := f.bounds
  obtain ⟨s0, ysign, dyh, z, s1, xsign, dxh⟩ := f
  simp only [svecFields, SvecFields.mk.injEq, getLsbD_eq_iff, extractLsb'_eq_iff, svecWord_toNat] at hb ⊢
  omega

/-! A word is made of its fields. -/

theorem vctrWord_of_fields (w : Word) :
    vctrWord (vpOpcode w) (w.getLsbD 11) (w.getLsbD 10) (w.extractLsb' 0 10) = w := by
  have := w.isLt
  rw [← BitVec.toNat_inj, vctrWord_toNat (BitVec.isLt _), vpOpcode_eq, toNat_getLsbD, toNat_getLsbD, toNat_extractLsb']
  omega

theorem fieldWord_of_fields (w : Word) : fieldWord (vpOpcode w) (w.extractLsb' 0 12) = w := by
  have := w.isLt
  rw [← BitVec.toNat_inj, fieldWord_toNat (BitVec.isLt _), vpOpcode_eq, toNat_extractLsb']
  omega

theorem svecWord_of_fields {w : Word} (h : vpOpcode w = 15) : svecWord (svecFields w) = w := by
  rw [vpOpcode_eq] at h
  rw [← BitVec.toNat_inj, svecWord_toNat]
  simp only [svecFields, toNat_getLsbD, toNat_extractLsb']
  omega

theorem vctrBytes_vctrFields (w0 w1 : Word) :
    vctrBytes (vpOpcode w0) (vctrFields w0 w1) = wordBytes w0 ++ wordBytes w1 := by
  rw [vctrBytes_eq]
  exact congrArg₂ (wordBytes · ++ wordBytes ·) (vctrWord_of_fields w0) (vctrWord_of_fields w1)

theorem labsBytes_labsFields {w0 : Word} (h : vpOpcode w0 = 10) (w1 : Word) :
    labsBytes (labsFields w0 w1) = wordBytes w0 ++ wordBytes w1 := by
  rw [labsBytes_eq, ← h]
  exact congrArg₂ (wordBytes · ++ wordBytes ·) (fieldWord_of_fields w0) (fieldWord_of_fields w1)

theorem fieldBytes_field (w0 : Word) : fieldBytes (vpOpcode w0) (w0.extractLsb' 0 12) = wordBytes w0 := by
  rw [fieldBytes_eq, fieldWord_of_fields]

theorem svecBytes_svecFields {w0 : Word} (h : vpOpcode w0 = 15) : svecBytes (svecFields w0) = wordBytes w0 := by
  rw [svecBytes_eq, svecWord_of_fields h]

/-! The Vector Processor's decoder and the encoder. -/

theorem decodeVpWords_labs {w0 : Word} (h : vpOpcode w0 = 10) (w1 : Word) :
    decodeVpWords w0 w1 = .labs (labsFields w0 w1) := by
  simp only [decodeVpWords, show (w0.extractLsb' 12 4).toNat = 10 from h]

theorem decodeVpWords_svec {w0 : Word} (h : vpOpcode w0 = 15) (w1 : Word) :
    decodeVpWords w0 w1 = .svec (svecFields w0) := by
  simp only [decodeVpWords, show (w0.extractLsb' 12 4).toNat = 15 from h]

/-- The encoding of what two words decode to, by the ranges of the opcode: VCTR, LABS, the rows with one 12-bit field,
SVEC. -/
theorem encode_decodeVpWords_cases (w0 w1 : Word) :
    (vpOpcode w0 < 10 ∧ encode (decodeVpWords w0 w1) = vctrBytes (vpOpcode w0) (vctrFields w0 w1)) ∨
    (vpOpcode w0 = 10 ∧ encode (decodeVpWords w0 w1) = labsBytes (labsFields w0 w1)) ∨
    (10 < vpOpcode w0 ∧ encode (decodeVpWords w0 w1) = fieldBytes (vpOpcode w0) (w0.extractLsb' 0 12)) ∨
    (vpOpcode w0 = 15 ∧ encode (decodeVpWords w0 w1) = svecBytes (svecFields w0)) := by
  have hlt : vpOpcode w0 < 16 := BitVec.isLt _
  have hranges : vpOpcode w0 < 10 ∨ vpOpcode w0 = 10 ∨ (10 < vpOpcode w0 ∧ vpOpcode w0 < 15) ∨ vpOpcode w0 = 15 := by
    omega
  rcases hranges with h | h | ⟨h, h15⟩ | h
  · refine .inl ⟨h, ?_⟩
    generalize hn : vpOpcode w0 = n at h
    interval_cases n <;> simp only [decodeVpWords, show (w0.extractLsb' 12 4).toNat = _ from hn, encode]
  · exact .inr (.inl ⟨h, congrArg encode (decodeVpWords_labs h w1)⟩)
  · refine .inr (.inr (.inl ⟨h, ?_⟩))
    generalize hn : vpOpcode w0 = n at h h15
    interval_cases n <;> simp only [decodeVpWords, show (w0.extractLsb' 12 4).toNat = _ from hn, encode]
  · exact .inr (.inr (.inr ⟨h, congrArg encode (decodeVpWords_svec h w1)⟩))

theorem vpWordCount_eq_one_iff {w : Word} : vpWordCount w = 1 ↔ 10 < vpOpcode w := by
  unfold vpWordCount vpOpcode
  split <;> omega

/-- The encoding of what two words decode to: both words, or the first alone where the instruction has one word. -/
theorem encode_decodeVpWords (w0 w1 : Word) :
    encode (decodeVpWords w0 w1) = if vpWordCount w0 = 1 then wordBytes w0 else wordBytes w0 ++ wordBytes w1 := by
  simp only [vpWordCount_eq_one_iff]
  rcases encode_decodeVpWords_cases w0 w1 with ⟨h, e⟩ | ⟨h, e⟩ | ⟨h, e⟩ | ⟨h, e⟩ <;> rw [e]
  · rw [vctrBytes_vctrFields, if_neg (by omega)]
  · rw [labsBytes_labsFields h, if_neg (by omega)]
  · rw [fieldBytes_field, if_pos h]
  · rw [svecBytes_svecFields h, if_pos (by omega)]

theorem wordBytes_w16 (l h : Byte) : wordBytes (w16 l h) = [l, h] := by
  rw [wordBytes, lo_w16, hi_w16]

/-- What the Vector Processor's decoder answers is made of the first word, or of the first two. -/
theorem decodeVp_ok_cases {bs rest : List Byte} {i : Instr} (h : decodeVp bs = .ok (i, rest)) :
    ∃ w0, (vpWordCount w0 = 1 ∧ i = decodeVpWords w0 0 ∧ bs = wordBytes w0 ++ rest) ∨
      (vpWordCount w0 ≠ 1 ∧ ∃ w1, i = decodeVpWords w0 w1 ∧ bs = wordBytes w0 ++ wordBytes w1 ++ rest) := by
  rcases bs with _ | ⟨b0, _ | ⟨b1, bs⟩⟩
  · cases h
  · cases h
  refine ⟨w16 b0 b1, ?_⟩
  simp only [decodeVp] at h
  split at h
  · next hc =>
    cases h
    exact .inl ⟨hc, rfl, by rw [wordBytes_w16]; rfl⟩
  · next hc =>
    rcases bs with _ | ⟨b2, _ | ⟨b3, bs⟩⟩ <;> cases h
    exact .inr ⟨hc, w16 b2 b3, rfl, by rw [wordBytes_w16, wordBytes_w16]; rfl⟩

/-- The bytes that the Vector Processor's decoder takes are the encoding of what it answers. -/
theorem encode_of_decodeVp {bs rest : List Byte} {i : Instr} (h : decodeVp bs = .ok (i, rest)) :
    i.isa = .vp ∧ bs = encode i ++ rest := by
  obtain ⟨w0, ⟨hc, rfl, rfl⟩ | ⟨hc, w1, rfl, rfl⟩⟩ := decodeVp_ok_cases h
  · exact ⟨decodeVpWords_isa _ _, by rw [encode_decodeVpWords, if_pos hc]⟩
  · exact ⟨decodeVpWords_isa _ _, by rw [encode_decodeVpWords, if_neg hc]⟩

/-- Two words, the first with the opcode of a two-word instruction. -/
theorem decodeVp_two {w0 w1 : Word} {i : Instr} (hn : vpOpcode w0 ≤ 10) (hi : decodeVpWords w0 w1 = i) (rest : List Byte) :
    decodeVp (wordBytes w0 ++ wordBytes w1 ++ rest) = .ok (i, rest) := by
  have hc : ¬ vpWordCount w0 = 1 := mt vpWordCount_eq_one_iff.1 (Nat.not_lt.2 hn)
  simp only [wordBytes, List.cons_append, List.nil_append, decodeVp, w16_lo_hi, if_neg hc, hi]

/-- A word with the opcode of a one-word instruction. -/
theorem decodeVp_one {w0 : Word} {i : Instr} (hn : 10 < vpOpcode w0) (hi : decodeVpWords w0 0 = i) (rest : List Byte) :
    decodeVp (wordBytes w0 ++ rest) = .ok (i, rest) := by
  simp only [wordBytes, List.cons_append, List.nil_append, decodeVp, w16_lo_hi, if_pos (vpWordCount_eq_one_iff.2 hn), hi]

/-- A VCTR, if its scale and fields are those of `i`. -/
theorem decodeVp_vctrBytes {n : Nat} {f : VctrFields} {i : Instr} (hn : n < 10)
    (hi : ∀ w0 w1, vpOpcode w0 = n → vctrFields w0 w1 = f → decodeVpWords w0 w1 = i) (rest : List Byte) :
    decodeVp (vctrBytes n f ++ rest) = .ok (i, rest) := by
  obtain ⟨hop, hu0, hysign, hdy⟩ := vctrWord_fields (by omega : n < 16) f.u0 f.ysign f.dy
  obtain ⟨hz, hu1, hxsign, hdx⟩ := vctrWord_fields f.z.isLt f.u1 f.xsign f.dx
  have hf : vctrFields (vctrWord n f.u0 f.ysign f.dy) (vctrWord f.z.toNat f.u1 f.xsign f.dx) = f := by
    rw [vctrFields, hu0, hysign, hdy, hu1, hxsign, hdx, BitVec.eq_of_toNat_eq hz]
  exact decodeVp_two (by omega) (hi _ _ hop hf) rest

theorem decodeVp_labsBytes (f : LabsFields) (rest : List Byte) : decodeVp (labsBytes f ++ rest) = .ok (.labs f, rest) := by
  obtain ⟨hop, hy⟩ := fieldWord_fields (n := 10) (by decide) f.y
  obtain ⟨hs, hx⟩ := fieldWord_fields f.s.isLt f.x
  have hf : labsFields (fieldWord 10 f.y) (fieldWord f.s.toNat f.x) = f := by
    rw [labsFields, hy, hx, BitVec.eq_of_toNat_eq hs]
  exact decodeVp_two hop.le ((decodeVpWords_labs hop _).trans (congrArg Instr.labs hf)) rest

/-- An instruction of one word with a 12-bit field, if the opcode and the field are those of `i`. -/
theorem decodeVp_fieldBytes {n : Nat} {u : BitVec 12} {i : Instr} (h10 : 10 < n) (h16 : n < 16)
    (hi : ∀ w0, vpOpcode w0 = n → w0.extractLsb' 0 12 = u → decodeVpWords w0 0 = i) (rest : List Byte) :
    decodeVp (fieldBytes n u ++ rest) = .ok (i, rest) := by
  obtain ⟨hop, hu⟩ := fieldWord_fields h16 u
  exact decodeVp_one (h10.trans_eq hop.symm) (hi _ hop hu) rest

theorem decodeVp_svecBytes (f : SvecFields) (rest : List Byte) : decodeVp (svecBytes f ++ rest) = .ok (.svec f, rest) := by
  have hop := vpOpcode_svecWord f
  rw [svecBytes_eq]
  exact decodeVp_one (by omega) ((decodeVpWords_svec hop 0).trans (congrArg Instr.svec (svecFields_svecWord f))) rest

/-- The Vector Processor's decoder inverts the encoder, by the format of the instruction's words. -/
theorem decodeVp_encode {i : Instr} (h : i.isa = .vp) (rest : List Byte) : decodeVp (encode i ++ rest) = .ok (i, rest) := by
  cases i with
  | vctr0 | vctr1 | vctr2 | vctr3 | vctr4 | vctr5 | vctr6 | vctr7 | vctr8 | vctr9 =>
    refine decodeVp_vctrBytes (by decide) (fun w0 w1 hop hf => ?_) rest
    simp only [decodeVpWords, show (w0.extractLsb' 12 4).toNat = _ from hop, hf]
  | labs f => exact decodeVp_labsBytes f rest
  | halt | jsrl | rtsl | jmpl =>
    refine decodeVp_fieldBytes (by decide) (by decide) (fun w0 hop hu => ?_) rest
    simp only [decodeVpWords, show (w0.extractLsb' 12 4).toNat = _ from hop, hu]
  | svec f => exact decodeVp_svecBytes f rest
  | _ => cases h

theorem Instr.wellFormed_iff {isa : Isa} {i : Instr} : i.wellFormed isa = true ↔ i.isa = isa := beq_iff_eq

/-! The rejected opcodes (30_encoding R168, R169). -/

/-- The list holds the empty cells of the opcode map, in the order of the map. -/
theorem illegalOpcodes_eq : Machine.illegalOpcodes =
    ((List.finRange 256).map BitVec.ofFin).filter fun op : Byte => (opcodeForm op).isNone := by
  decide

theorem nodup_illegalOpcodes : Machine.illegalOpcodes.Nodup := by
  rw [illegalOpcodes_eq]
  exact ((List.nodup_finRange 256).map fun _ _ => BitVec.ofFin.inj).filter _

theorem mem_illegalOpcodes_iff (op : Byte) : op ∈ Machine.illegalOpcodes ↔ opcodeForm op = none := by
  rw [illegalOpcodes_eq, List.mem_filter, Option.isNone_iff_eq_none]
  exact and_iff_right (List.mem_map.2 ⟨op.toFin, List.mem_finRange _, rfl⟩)

/-! The statements about the encoding: O1 to O4. -/

/-- Settles O1, for each agent by its own decoder. -/
theorem decodeOfEncoded : Obligations.DecodeOfEncoded := by
  intro isa i rest h
  cases isa with
  | cpu => exact decodeCpu_encode (Instr.wellFormed_iff.1 h) rest
  | vp => exact decodeVp_encode (Instr.wellFormed_iff.1 h) rest

/-- Settles O2, for each agent by its own decoder. -/
theorem encodeOfDecoded : Obligations.EncodeOfDecoded := by
  intro isa bs rest i h
  rw [Instr.wellFormed_iff]
  cases isa with
  | cpu => exact ⟨decodeCpu_isa h, encode_of_decodeCpu h⟩
  | vp => exact encode_of_decodeVp h

/-- Settles O3: the listed bytes are the empty cells of the opcode map. -/
theorem illegalOpcodesRule : Obligations.IllegalOpcodes := by
  refine ⟨nodup_illegalOpcodes, rfl, fun op b1 b2 => ?_⟩
  rw [mem_illegalOpcodes_iff]
  rcases decodeCpu_three op b1 b2 with ⟨hnone, herr⟩ | ⟨hsome, i, rest, hok⟩
  · exact ⟨fun _ => herr, fun h => absurd hnone h⟩
  · refine ⟨fun h => absurd h hsome, fun _ => ?_⟩
    obtain ⟨k, n, -, hview⟩ := tag_of_decode hok
    exact ⟨i, rest, k, n.mode b1 b2, hok, hview⟩

/-- Settles O4: each list of bytes is what the encoder writes for the instruction, and O1 decodes it. -/
theorem writtenOutWords : Obligations.WrittenOutWords :=
  ⟨decodeOfEncoded .cpu (.ldaImm 0x80) [] rfl, decodeOfEncoded .cpu (.staAbs 0x0200) [] rfl,
    decodeOfEncoded .cpu (.adcIndY 0x10) [] rfl, decodeOfEncoded .cpu (.rolAbsX 0x1234) [] rfl,
    decodeOfEncoded .cpu (.jmpInd 0x02FF) [] rfl, decodeOfEncoded .cpu (.bne 0xF0) [] rfl,
    decodeOfEncoded .cpu .plp [] rfl, decodeOfEncoded .cpu .sed [] rfl,
    decodeOfEncoded .vp (.vctr9 ⟨false, true, 0x100, 15, false, false, 0x200⟩) [] rfl,
    decodeOfEncoded .vp (.labs ⟨0x180, 1, 0x200⟩) [] rfl, decodeOfEncoded .vp (.halt 0) [] rfl,
    decodeOfEncoded .vp (.jsrl 0x8A0) [] rfl, decodeOfEncoded .vp (.svec ⟨true, false, 0, 7, false, false, 3⟩) [] rfl⟩

end Sys2Proof

/-! The effective addresses: O25. -/

namespace Sys2Proof.Machine

theorem zext_eq_ofNat (b : Byte) : zext b = BitVec.ofNat 16 b.toNat := by
  rw [← BitVec.toNat_inj, zext_toNat, BitVec.toNat_ofNat]
  omega

/-- A zero-page pointer as a number, its second byte's address modulo 256 (30_encoding R163). -/
theorem State.zpPointer_toNat (s : State) (p : Byte) :
    (s.zpPointer p).toNat = (s.read (BitVec.ofNat 16 p.toNat)).toNat +
      256 * (s.read (BitVec.ofNat 16 ((p.toNat + 1) % 256))).toNat := by
  have hnext : (p + 1).toNat = (p.toNat + 1) % 256 := BitVec.toNat_add p 1
  rw [State.zpPointer, w16_toNat, zext_eq_ofNat, zext_eq_ofNat, hnext]
  omega

/-- Settles O25: each mode by its equation, its sums and the pointer as numbers. -/
theorem effectiveAddresses : Obligations.EffectiveAddresses := by
  rintro s b w _ _ rfl rfl pointer hpointer
  have hptr (p : Byte) : (s.zpPointer p).toNat = pointer p.toNat := (s.zpPointer_toNat p).trans (hpointer _).symm
  have hzp (i : Byte) : (zext (b + i)).toNat = (b.toNat + i.toNat) % 256 := by rw [zext_toNat, BitVec.toNat_add]
  have hword (a : Word) (i : Byte) : (a + zext i).toNat = (a.toNat + i.toNat) % 65536 := by
    rw [BitVec.toNat_add, zext_toNat]
  refine ⟨zext_toNat b, hzp _, hzp _, rfl, hword w _, hword w _, ?_, ?_⟩
  · exact (hptr _).trans (congrArg pointer (BitVec.toNat_add b s.cpu.x))
  · exact (hword (s.zpPointer b) s.cpu.y).trans (by rw [hptr])

end Sys2Proof.Machine

/-! The arithmetic instructions: O26 to O31. -/

namespace Sys2Proof.Machine

/-! Bytes as numbers, signed and unsigned. -/

theorem getLsbD_seven (v : Byte) : v.getLsbD 7 = decide (128 ≤ v.toNat) :=
  (BitVec.msb_eq_getLsbD_last v).symm.trans (BitVec.msb_eq_decide v)

/-- A byte is zero when its number is, in the form that the Z flag takes. -/
theorem decide_ofNat_eq_zero (k : Nat) : decide ((BitVec.ofNat 8 k : Byte) = 0) = decide (k % 256 = 0) := by
  rw [decide_eq_decide, ← BitVec.toNat_inj, BitVec.toNat_ofNat]
  rfl

theorem Flags.setNZ_ofNat (p : Flags) (k : Nat) : p.setNZ (BitVec.ofNat 8 k) = p.withNZ (k % 256) := by
  rw [Flags.setNZ_eq, BitVec.toNat_ofNat]

theorem add_one_eq_ofNat (v : Byte) : v + 1 = BitVec.ofNat 8 ((v.toNat + 1) % 256) := by
  rw [← BitVec.toNat_inj, BitVec.toNat_add, BitVec.toNat_ofNat, Nat.mod_mod]
  rfl

theorem sub_one_eq_ofNat (v : Byte) : v - 1 = BitVec.ofNat 8 ((v.toNat + 255) % 256) := by
  rw [← BitVec.toNat_inj, BitVec.toNat_sub, BitVec.toNat_ofNat, Nat.mod_mod, Nat.add_comm]
  rfl

theorem Flags.setNZ_mod (p : Flags) (k : Nat) : p.setNZ (BitVec.ofNat 8 (k % 256)) = p.withNZ (k % 256) := by
  rw [Flags.setNZ_ofNat, Nat.mod_mod]

/-- ADC's V: the signs of both operands differ from the sum's exactly when the signed sum overflows (40_arithmetic R200). -/
theorem adc_signBits_eq_overflow (a m : Byte) (c : Bool) :
    ((a ^^^ BitVec.ofNat 8 (a.toNat + m.toNat + c.toNat)) &&&
      (m ^^^ BitVec.ofNat 8 (a.toNat + m.toNat + c.toNat))).getLsbD 7 =
    decide (a.toInt + m.toInt + c.toNat < -128 ∨ 127 < a.toInt + m.toInt + c.toNat) := by
  have ha := a.isLt
  have hm := m.isLt
  have hc := c.toNat_le
  rw [BitVec.getLsbD_and, BitVec.getLsbD_xor, BitVec.getLsbD_xor, getLsbD_seven, getLsbD_seven, getLsbD_seven,
    BitVec.toNat_ofNat, BitVec.toInt_eq_toNat_cond, BitVec.toInt_eq_toNat_cond, Bool.eq_iff_iff]
  simp only [Bool.and_eq_true, bne_iff_ne, ne_eq, decide_eq_decide, decide_eq_true_eq]
  omega

/-- SBC's V: SBC adds the complement of the operand, whose sign is the other one and whose number is the operand's, negated,
less 1 (40_arithmetic R200). -/
theorem sbc_signBits_eq_overflow (a m : Byte) (c : Bool) :
    ((a ^^^ m) &&& (a ^^^ BitVec.ofNat 8 (a.toNat + (255 - m.toNat) + c.toNat))).getLsbD 7 =
    decide (a.toInt - m.toInt - (1 - (c.toNat : Int)) < -128 ∨ 127 < a.toInt - m.toInt - (1 - (c.toNat : Int))) := by
  have hnot : (~~~m).toNat = 255 - m.toNat := BitVec.toNat_not
  have hneg : a.toInt + (~~~m).toInt + c.toNat = a.toInt - m.toInt - (1 - (c.toNat : Int)) := by
    have hm := m.isLt
    rw [BitVec.toInt_eq_toNat_cond (x := ~~~m), BitVec.toInt_eq_toNat_cond (x := m), hnot]
    omega
  have hbits (r : Byte) : ((a ^^^ m) &&& (a ^^^ r)).getLsbD 7 = ((a ^^^ r) &&& (~~~m ^^^ r)).getLsbD 7 := by
    simp only [BitVec.getLsbD_and, BitVec.getLsbD_xor, BitVec.getLsbD_not]
    cases a.getLsbD 7 <;> cases m.getLsbD 7 <;> cases r.getLsbD 7 <;> rfl
  rw [hbits, ← hnot, adc_signBits_eq_overflow, hneg]

theorem adcResult_binary (a m : Byte) {p : Flags} (hd : p.d = false) :
    adcResult a m p = (BitVec.ofNat 8 (a.toNat + m.toNat + p.c.toNat),
      { p.withNZ ((a.toNat + m.toNat + p.c.toNat) % 256) with
        c := decide (256 ≤ a.toNat + m.toNat + p.c.toNat),
        v := decide (a.toInt + m.toInt + p.c.toNat < -128 ∨ 127 < a.toInt + m.toInt + p.c.toNat) }) := by
  rw [← adc_signBits_eq_overflow, ← Flags.setNZ_ofNat, adcResult, if_neg (Bool.eq_false_iff.1 hd)]
  rfl

theorem adcResult_decimal (a m : Byte) {p : Flags} (hd : p.d = true) {t u : Nat}
    (ht : t = a.toNat / 16 * 16 + m.toNat / 16 * 16 + adcLowDigit a m p) (hu : u = if 0xA0 ≤ t then t + 0x60 else t) :
    adcResult a m p = (BitVec.ofNat 8 u,
      { p with
        n := decide (t / 128 % 2 = 1), v := ((a.toNat ^^^ t) &&& (m.toNat ^^^ t)).testBit 7,
        z := decide ((a.toNat + m.toNat + p.c.toNat) % 256 = 0), c := decide (0x100 ≤ u) }) := by
  have hn : t.testBit 7 = decide (t / 128 % 2 = 1) := Nat.testBit_eq_decide_div_mod_eq
  rw [← decide_ofNat_eq_zero, ← hn, adcResult, if_pos hd]
  subst hu ht
  rfl

/-- The accumulator that a decimal SBC leaves: taking `t` modulo 256 first changes no bit of the byte. -/
theorem sbcDecimal_eq (a m : Byte) (p : Flags) {al0 al t0 t : Int}
    (h0 : al0 = (a.toNat % 16 : Nat) - (m.toNat % 16 : Nat) + (p.c.toNat : Int) - 1)
    (hl : al = if al0 < 0 then (al0 - 0x06) % 16 - 0x10 else al0)
    (h1 : t0 = (a.toNat / 16 * 16 : Nat) - (m.toNat / 16 * 16 : Nat) + al)
    (ht : t = if t0 < 0 then t0 - 0x60 else t0) : sbcDecimal a m p = BitVec.ofInt 8 t := by
  have hmod : BitVec.ofInt 8 (t % 256) = BitVec.ofInt 8 t := by
    rw [← BitVec.toNat_inj, BitVec.toNat_ofInt, BitVec.toNat_ofInt]
    omega
  rw [← hmod]
  subst ht h1 hl h0
  rfl

theorem sbcResult_eq (a m : Byte) (p : Flags) :
    sbcResult a m p = (if p.d then sbcDecimal a m p else BitVec.ofNat 8 (a.toNat + (255 - m.toNat) + p.c.toNat),
      { p.withNZ ((a.toNat + (255 - m.toNat) + p.c.toNat) % 256) with
        c := decide (m.toNat + (1 - p.c.toNat) ≤ a.toNat),
        v := decide (a.toInt - m.toInt - (1 - (p.c.toNat : Int)) < -128 ∨
                     127 < a.toInt - m.toInt - (1 - (p.c.toNat : Int))) }) := by
  have hcarry : (256 ≤ a.toNat + (255 - m.toNat) + p.c.toNat) = (m.toNat + (1 - p.c.toNat) ≤ a.toNat) := by
    have hm := m.isLt
    have hc := p.c.toNat_le
    exact propext (by omega)
  simp only [← sbc_signBits_eq_overflow, ← Flags.setNZ_ofNat, ← hcarry]
  rfl

/-- The flags of a compare, in unsigned arithmetic (40_arithmetic R203-R205). -/
theorem compareFlags_eq (r m : Byte) (p : Flags) :
    compareFlags r m p = { p with
      c := decide (m.toNat ≤ r.toNat), z := decide (r.toNat = m.toNat),
      n := decide (128 ≤ (r.toNat + (256 - m.toNat)) % 256) } := by
  rw [compareFlags, getLsbD_seven, BitVec.toNat_sub, Nat.add_comm (2 ^ 8 - m.toNat)]
  simp only [BitVec.toNat_inj]

theorem incResult_eq (p : Flags) (v : Byte) :
    incResult p v = (BitVec.ofNat 8 ((v.toNat + 1) % 256), p.withNZ ((v.toNat + 1) % 256)) := by
  rw [incResult, add_one_eq_ofNat, Flags.setNZ_mod]

theorem decResult_eq (p : Flags) (v : Byte) :
    decResult p v = (BitVec.ofNat 8 ((v.toNat + 255) % 256), p.withNZ ((v.toNat + 255) % 256)) := by
  rw [decResult, sub_one_eq_ofNat, Flags.setNZ_mod]

/-! What the shapes of the meanings leave, for a function of which the result is known. -/

section
variable {s : State}

/-- An instruction that reads its operand leaves what its function makes of the operand, the program counter past its bytes
and the returned cycles. -/
theorem readOp_of_eq {f : Byte → State → State} {o : Operand} {t : State} (h : f (s.operand o) s = t) (c : Nat) :
    ∃ cyc, readOp f c o s =
      .next { t with cpu := { t.cpu with pc := t.cpu.pc + BitVec.ofNat 16 o.length, cycles := cyc } } :=
  ⟨_, by rw [← h]; rfl⟩

/-- The same for an instruction of one byte. -/
theorem impliedOp_of_eq {g : State → State} {t : State} (h : g s = t) (c : Nat) :
    ∃ cyc, impliedOp g c s = .next { t with cpu := { t.cpu with pc := t.cpu.pc + 1, cycles := cyc } } :=
  ⟨_, by rw [← h]; rfl⟩

theorem adcStep_of_eq {m a : Byte} {p : Flags} (h : adcResult s.cpu.a m s.cpu.p = (a, p)) :
    adcStep m s = (s.setA a).setP p := by
  rw [adcStep, h]

theorem sbcStep_of_eq {m a : Byte} {p : Flags} (h : sbcResult s.cpu.a m s.cpu.p = (a, p)) :
    sbcStep m s = (s.setA a).setP p := by
  rw [sbcStep, h]

theorem inxStep_eq : inxStep s = (s.setX (BitVec.ofNat 8 ((s.cpu.x.toNat + 1) % 256))).setP
    (s.cpu.p.withNZ ((s.cpu.x.toNat + 1) % 256)) :=
  congrArg (fun r : Byte × Flags => (s.setX r.1).setP r.2) (incResult_eq s.cpu.p s.cpu.x)

theorem inyStep_eq : inyStep s = (s.setY (BitVec.ofNat 8 ((s.cpu.y.toNat + 1) % 256))).setP
    (s.cpu.p.withNZ ((s.cpu.y.toNat + 1) % 256)) :=
  congrArg (fun r : Byte × Flags => (s.setY r.1).setP r.2) (incResult_eq s.cpu.p s.cpu.y)

theorem dexStep_eq : dexStep s = (s.setX (BitVec.ofNat 8 ((s.cpu.x.toNat + 255) % 256))).setP
    (s.cpu.p.withNZ ((s.cpu.x.toNat + 255) % 256)) :=
  congrArg (fun r : Byte × Flags => (s.setX r.1).setP r.2) (decResult_eq s.cpu.p s.cpu.x)

theorem deyStep_eq : deyStep s = (s.setY (BitVec.ofNat 8 ((s.cpu.y.toNat + 255) % 256))).setP
    (s.cpu.p.withNZ ((s.cpu.y.toNat + 255) % 256)) :=
  congrArg (fun r : Byte × Flags => (s.setY r.1).setP r.2) (decResult_eq s.cpu.p s.cpu.y)

/-- A read-modify-write instruction stores its function's byte at the effective address in one Bus write, and of the CPU it
changes the flags, the program counter and the returned cycles only. -/
theorem modifyMem_stored (hs : s.MemoryCanonical) {f : Flags → Byte → Byte × Flags} {m : MemMode} {v : Byte} {p : Flags}
    (h : f s.cpu.p (s.read (s.effAddr m)) = (v, p)) (c : Nat) :
    ∃ t cyc, modifyMem f c m s = .next t ∧ s.StoredByte t (s.effAddr m) v ∧ t.sched = s.sched ∧
      t.cpu = { s.cpu with p := p, pc := s.cpu.pc + BitVec.ofNat 16 m.length, cycles := cyc } := by
  have hcpu : ((s.write (s.effAddr m) v).setP p |>.retire m.length c).cpu =
      { s.cpu with p := p, pc := s.cpu.pc + BitVec.ofNat 16 m.length, cycles := c } := by
    rw [State.retire_cpu, State.setP, State.write_cpu]
  refine ⟨((s.write (s.effAddr m) v).setP p).retire m.length c, c, ?_, ?_, State.write_sched .., hcpu⟩
  · rw [modifyMem, h]
  · exact (State.write_storedByte hs (s.effAddr m) v).congr rfl rfl rfl

end

/-! The statements: O26, O27 and O29 to O31. -/

/-- Settles O26: the opcodes off the map, and ADC's result in the mode that D selects. -/
theorem adcRule : Obligations.AdcRule := by
  refine ⟨hasOpcodes_of (by decide) (by decide), ?_⟩
  rintro i o s _ _ _ hview rfl rfl rfl
  rw [exec_adc s hview]
  refine ⟨fun hd => ?_, fun hd al t u hal ht hu => ?_⟩
  · exact readOp_of_eq (adcStep_of_eq (adcResult_binary _ _ hd)) _
  · exact readOp_of_eq (adcStep_of_eq (adcResult_decimal _ _ hd (by rw [ht, hal, adcLowDigit]) hu)) _

/-- Settles O27: the opcodes off the map, and SBC's result, whose flags are the same in both modes. -/
theorem sbcRule : Obligations.SbcRule := by
  refine ⟨hasOpcodes_of (by decide) (by decide), ?_⟩
  rintro i o s _ _ _ al0 al t0 t hview rfl rfl rfl h0 hl h1 ht
  rw [exec_sbc s hview, ← sbcDecimal_eq s.cpu.a (s.operand o) s.cpu.p h0 hl h1 ht]
  exact readOp_of_eq (sbcStep_of_eq (sbcResult_eq _ _ _)) _

/-- Settles O29: the opcodes off the map, and the flags of the compare for the register of each mnemonic. -/
theorem compareRules : Obligations.CompareRules := by
  refine ⟨hasOpcodes_of (by decide) (by decide), hasOpcodes_of (by decide) (by decide),
    hasOpcodes_of (by decide) (by decide), ?_⟩
  rintro i k o s _ _ hview rfl (⟨rfl, rfl⟩ | ⟨rfl, rfl⟩ | ⟨rfl, rfl⟩)
  · exact exec_cmp s hview ▸ readOp_of_eq (f := cmpStep) (congrArg s.setP (compareFlags_eq s.cpu.a _ _)) _
  · exact exec_cpx s hview ▸ readOp_of_eq (f := cpxStep) (congrArg s.setP (compareFlags_eq s.cpu.x _ _)) _
  · exact exec_cpy s hview ▸ readOp_of_eq (f := cpyStep) (congrArg s.setP (compareFlags_eq s.cpu.y _ _)) _

/-- Settles O30: the opcodes off the map, and one write of the byte plus or minus 1. -/
theorem incDecRules : Obligations.IncDecRules := by
  refine ⟨hasOpcodes_of (by decide) (by decide), hasOpcodes_of (by decide) (by decide), ?_⟩
  rintro i k m s _ hs hview (⟨rfl, rfl⟩ | ⟨rfl, rfl⟩)
  · obtain ⟨c, -, hexec⟩ := exec_inc_mem s hview
    exact hexec ▸ modifyMem_stored hs (incResult_eq _ _) c
  · obtain ⟨c, -, hexec⟩ := exec_dec_mem s hview
    exact hexec ▸ modifyMem_stored hs (decResult_eq _ _) c

/-- Settles O31: the opcodes off the map, and the register and the flags as INC and DEC make them. -/
theorem registerCountRules : Obligations.RegisterCountRules := by
  refine ⟨hasOpcodes_of (by decide) (by decide), hasOpcodes_of (by decide) (by decide),
    hasOpcodes_of (by decide) (by decide), hasOpcodes_of (by decide) (by decide), ?_⟩
  rintro i s _ _ rfl rfl
  refine ⟨fun hview => ?_, fun hview => ?_, fun hview => ?_, fun hview => ?_⟩
  · exact exec_inx s hview ▸ impliedOp_of_eq inxStep_eq 2
  · exact exec_iny s hview ▸ impliedOp_of_eq inyStep_eq 2
  · exact exec_dex s hview ▸ impliedOp_of_eq dexStep_eq 2
  · exact exec_dey s hview ▸ impliedOp_of_eq deyStep_eq 2

/-! Two-digit BCD (40_arithmetic R200), and the proof of O28. -/

theorem isBcd_iff {b : Byte} : isBcd b = true ↔ b.toNat / 16 < 10 ∧ b.toNat % 16 < 10 := decide_eq_true_iff

/-- A byte with the two low decimal digits of `v` is BCD of the value `v` modulo 100. -/
theorem bcd_of_digits {b : Byte} {v : Nat} (h : b.toNat = v / 10 % 10 * 16 + v % 10) :
    isBcd b = true ∧ bcdValue b = v % 100 := by
  rw [isBcd_iff, bcdValue]
  omega

/-! A digit sum below 20 is its last digit and a carry. ADC's corrections make that of the low and then of the high digit
sum; SBC's make it of the digit sums of the nines' complement, less a borrow of one (40_arithmetic R201, R202). -/

theorem adc_correct_low {l : Nat} (h : l < 20) :
    (if 0x0A ≤ l then (l + 0x06) % 16 + 0x10 else l) = l / 10 * 16 + l % 10 := by
  split <;> omega

theorem adc_correct_high {h r : Nat} (hh : h < 20) (hr : r < 10) :
    (if 0xA0 ≤ h * 16 + r then h * 16 + r + 0x60 else h * 16 + r) = h / 10 * 256 + h % 10 * 16 + r := by
  split <;> omega

theorem sbc_correct_low {l : Nat} (h : l < 20) :
    (if (l : Int) - 10 < 0 then ((l : Int) - 10 - 0x06) % 16 - 0x10 else (l : Int) - 10) =
      (l / 10 * 16 + l % 10 : Nat) - 16 := by
  split <;> omega

theorem sbc_correct_high {h r : Nat} (hh : h < 20) (hr : r < 10) :
    (if (h * 16 + r : Nat) - (160 : Int) < 0 then (h * 16 + r : Nat) - (160 : Int) - 0x60
      else (h * 16 + r : Nat) - (160 : Int)) = (h / 10 * 256 + h % 10 * 16 + r : Nat) - 256 := by
  split <;> omega

/-- The corrected sum of digits: its byte is the two low decimal digits, and it leaves the byte when a third digit is there. -/
theorem corrected_digits (v : Nat) :
    (v / 10 / 10 * 256 + v / 10 % 10 * 16 + v % 10) % 2 ^ 8 = v / 10 % 10 * 16 + v % 10 ∧
    (0x100 ≤ v / 10 / 10 * 256 + v / 10 % 10 * 16 + v % 10 ↔ 100 ≤ v) := by
  constructor <;> omega

/-- The decimal sum of BCD operands has the digits of the sum of their values, and its carry. -/
theorem adcResult_bcd {a m : Byte} {p : Flags} (ha : isBcd a = true) (hm : isBcd m = true) (hd : p.d = true) {v : Nat}
    (hv : v = bcdValue a + bcdValue m + p.c.toNat) :
    (adcResult a m p).1.toNat = v / 10 % 10 * 16 + v % 10 ∧ (adcResult a m p).2.c = decide (100 ≤ v) := by
  rw [isBcd_iff] at ha hm
  rw [bcdValue, bcdValue] at hv
  have hc := p.c.toNat_le
  have ht : v / 10 * 16 + v % 10 = a.toNat / 16 * 16 + m.toNat / 16 * 16 + adcLowDigit a m p := by
    rw [adcLowDigit, adc_correct_low (by omega)]
    omega
  have hu := adc_correct_high (h := v / 10) (r := v % 10) (by omega) (by omega)
  rw [adcResult_decimal a m hd ht hu.symm, BitVec.toNat_ofNat, decide_eq_decide]
  exact corrected_digits v

/-- The decimal difference of BCD operands has the digits of the difference of their values modulo 100. -/
theorem sbcDecimal_bcd {a m : Byte} {p : Flags} (ha : isBcd a = true) (hm : isBcd m = true) {v : Nat}
    (hv : v = bcdValue a + 99 - bcdValue m + p.c.toNat) :
    (sbcDecimal a m p).toNat = v / 10 % 10 * 16 + v % 10 := by
  rw [isBcd_iff] at ha hm
  rw [bcdValue, bcdValue] at hv
  have hc := p.c.toNat_le
  obtain ⟨l, hl⟩ : ∃ l, l = a.toNat % 16 + 9 - m.toNat % 16 + p.c.toNat := ⟨_, rfl⟩
  have hlow := sbc_correct_low (l := l) (by omega)
  have hdigits : v = (a.toNat / 16 + 9 - m.toNat / 16) * 10 + l := by omega
  have hhigh := sbc_correct_high (h := v / 10) (r := v % 10) (by omega) (by omega)
  rw [sbcDecimal_eq a m p (by omega) hlow.symm (by omega) hhigh.symm, BitVec.toNat_ofInt]
  rw [show ((2 ^ 8 : Nat) : Int) = 256 from rfl, Int.sub_emod_right]
  exact (corrected_digits v).1

/-- BCD bytes are in the order of their values. -/
theorem bcdValue_carry {a m : Byte} (ha : isBcd a = true) (hm : isBcd m = true) {b : Nat} (hb : b ≤ 1) :
    m.toNat + b ≤ a.toNat ↔ bcdValue m + b ≤ bcdValue a := by
  rw [isBcd_iff] at ha hm
  rw [bcdValue, bcdValue]
  omega

/-- Settles O28: both results have the digits of the arithmetic on the operands' values. -/
theorem bcdValues : Obligations.BcdValues := by
  intro a m p ha hm hd
  obtain ⟨hsum, hcarry⟩ := adcResult_bcd ha hm hd rfl
  obtain ⟨hadc, hadcValue⟩ := bcd_of_digits hsum
  obtain ⟨hsbc, hsbcValue⟩ := bcd_of_digits (sbcDecimal_bcd (p := p) ha hm rfl)
  have hborrow := bcdValue_carry ha hm (Nat.sub_le 1 p.c.toNat)
  rw [sbcResult_eq, hd]
  exact ⟨hadc, hadcValue, hcarry, hsbc, hsbcValue, decide_eq_decide.2 hborrow⟩

end Sys2Proof.Machine

/-! The logic and shift instructions: O32 to O34. -/

namespace Sys2Proof.Machine

/-! The bits of a byte that BIT and the right shifts read, as numbers. -/

theorem getLsbD_six (v : Byte) : v.getLsbD 6 = decide (64 ≤ v.toNat % 128) := by
  have hbit : v.getLsbD 6 = decide (v.toNat / 64 % 2 = 1) := Nat.testBit_eq_decide_div_mod_eq
  rw [hbit, decide_eq_decide]
  omega

theorem getLsbD_zero (v : Byte) : v.getLsbD 0 = decide (v.toNat % 2 = 1) := Nat.testBit_zero v.toNat

/-! The results and the flags, in unsigned arithmetic. -/

/-- A byte put in A with N and Z from it, by the byte's number (41_logic R230-R232). -/
theorem State.setA_setNZ (s : State) {v : Byte} {r : Nat} (h : v.toNat = r) :
    (s.setA v).setNZ v = (s.setA (BitVec.ofNat 8 r)).setP (s.cpu.p.withNZ r) := by
  rw [← h, BitVec.ofNat_toNat, BitVec.setWidth_eq, ← Flags.setNZ_eq]
  rfl

theorem bitFlags_eq (a m : Byte) (p : Flags) :
    bitFlags a m p = { p with
      z := decide (a.toNat &&& m.toNat = 0), n := decide (128 ≤ m.toNat), v := decide (64 ≤ m.toNat % 128) } := by
  have hz : (a &&& m = 0) = (a.toNat &&& m.toNat = 0) := by
    rw [← BitVec.toNat_inj, BitVec.toNat_and]
    rfl
  simp only [bitFlags, getLsbD_seven, getLsbD_six, hz]

/-- The pair that a shift makes of the number `n` before it is cut to a byte and of the bit shifted out. -/
theorem shiftPair_eq (p : Flags) {n r : Nat} {b c : Bool} (hr : n % 256 = r) (hc : b = c) :
    ((BitVec.ofNat 8 n : Byte), { p.setNZ (BitVec.ofNat 8 n) with c := b }) =
      (BitVec.ofNat 8 r, { p.withNZ r with c := c }) := by
  have hbyte : (BitVec.ofNat 8 n : Byte) = BitVec.ofNat 8 r := by
    rw [← BitVec.toNat_inj, BitVec.toNat_ofNat, BitVec.toNat_ofNat, ← hr, Nat.mod_mod]
  rw [Flags.setNZ_ofNat, hbyte, hr, hc]

/-- A shift or rotate has one function of the flags and the byte, which gives the value and the carry of `shiftValue`; its
accumulator form and its memory forms apply that function (41_logic R234-R237). -/
theorem exec_of_shiftValue {k : Mnemonic} {v : Byte} {p : Flags} {r : Nat} {c : Bool}
    (h : shiftValue v p.c k = some (r, c)) :
    ∃ f : Flags → Byte → Byte × Flags, f p v = (BitVec.ofNat 8 r, { p.withNZ r with c := c }) ∧
      (∀ i s, i.view = .cpu k .acc → exec i s = modifyAcc f 2 s) ∧
      ∀ i s m, i.view = .cpu k (.src (.mem m)) → ∃ cyc, modifyCycles m = some cyc ∧ exec i s = modifyMem f cyc m s := by
  have hv := v.isLt
  have hcarry := p.c.toNat_le
  cases k with
  | asl =>
    cases h
    exact ⟨aslResult, shiftPair_eq p rfl (getLsbD_seven v), fun _ s => exec_asl_acc s, fun _ s _ => exec_asl_mem s⟩
  | lsr =>
    cases h
    exact ⟨lsrResult, shiftPair_eq p (by omega) (getLsbD_zero v), fun _ s => exec_lsr_acc s,
      fun _ s _ => exec_lsr_mem s⟩
  | rol =>
    cases h
    exact ⟨rolResult, shiftPair_eq p rfl (getLsbD_seven v), fun _ s => exec_rol_acc s, fun _ s _ => exec_rol_mem s⟩
  | ror =>
    cases h
    exact ⟨rorResult, shiftPair_eq p (by omega) (getLsbD_zero v), fun _ s => exec_ror_acc s,
      fun _ s _ => exec_ror_mem s⟩
  | _ => cases h

/-- What a shift of the accumulator leaves, for a function of which the result is known. -/
theorem modifyAcc_of_eq {s : State} {f : Flags → Byte → Byte × Flags} {v : Byte} {p : Flags}
    (h : f s.cpu.p s.cpu.a = (v, p)) (c : Nat) :
    ∃ cyc, modifyAcc f c s =
      .next { s with cpu := { s.cpu with a := v, p := p, pc := s.cpu.pc + 1, cycles := cyc } } :=
  ⟨c, by rw [modifyAcc, h]; rfl⟩

/-! The statements: O32 to O34. -/

/-- Settles O32: the opcodes off the map, and each operation's bytes as numbers. -/
theorem logicRules : Obligations.LogicRules := by
  refine ⟨hasOpcodes_of (by decide) (by decide), hasOpcodes_of (by decide) (by decide),
    hasOpcodes_of (by decide) (by decide), ?_⟩
  rintro i k o s _ _ _ hview rfl rfl (⟨rfl, rfl⟩ | ⟨rfl, rfl⟩ | ⟨rfl, rfl⟩)
  · exact exec_and s hview ▸ readOp_of_eq (f := andStep) (s.setA_setNZ (BitVec.toNat_and ..)) _
  · exact exec_ora s hview ▸ readOp_of_eq (f := oraStep) (s.setA_setNZ (BitVec.toNat_or ..)) _
  · exact exec_eor s hview ▸ readOp_of_eq (f := eorStep) (s.setA_setNZ (BitVec.toNat_xor ..)) _

/-- Settles O33: the opcodes off the map, and BIT's three flags as numbers. -/
theorem bitRule : Obligations.BitRule := by
  refine ⟨hasOpcodes_of (by decide) (by decide), ?_⟩
  rintro i m s _ hview rfl
  exact exec_bit s hview ▸ readOp_of_eq (f := bitStep) (congrArg s.setP (bitFlags_eq s.cpu.a _ _)) _

/-- Settles O34: the opcodes off the map, and the mnemonic's function applied to A or to the byte at the effective
address. -/
theorem shiftRules : Obligations.ShiftRules := by
  refine ⟨hasOpcodes_of (by decide) (by decide), hasOpcodes_of (by decide) (by decide),
    hasOpcodes_of (by decide) (by decide), hasOpcodes_of (by decide) (by decide), ?_⟩
  refine fun i k s r c => ⟨fun hview hvalue => ?_, fun m hs hview hvalue => ?_⟩
  · obtain ⟨f, hf, hacc, -⟩ := exec_of_shiftValue hvalue
    exact hacc i s hview ▸ modifyAcc_of_eq hf 2
  · obtain ⟨f, hf, -, hmem⟩ := exec_of_shiftValue hvalue
    obtain ⟨cyc, -, hexec⟩ := hmem i s m hview
    exact hexec ▸ modifyMem_stored hs hf cyc

end Sys2Proof.Machine

/-! The loads, the stores and the register transfers: O35 to O37. -/

namespace Sys2Proof.Machine

/-- N and Z from a byte, by the byte's number: what every load and every transfer but TXS ends with (00_scope R10). -/
theorem State.setNZ_eq (s : State) (v : Byte) : s.setNZ v = s.setP (s.cpu.p.withNZ v.toNat) :=
  congrArg s.setP (Flags.setNZ_eq ..)

/-- A store makes one Bus write of its byte at the effective address, and of the CPU it changes the program counter and
the returned cycles only, which are the given ones whether or not the address crosses a page. -/
theorem storeOp_stored {s : State} (hs : s.MemoryCanonical) (v : Byte) (m : MemMode) (c : Nat) :
    ∃ t, storeOp v c m s = .next t ∧ s.StoredByte t (s.effAddr m) v ∧ t.sched = s.sched ∧
      t.cpu = { s.cpu with pc := s.cpu.pc + BitVec.ofNat 16 m.length, cycles := c } := by
  have hcpu : ((s.write (s.effAddr m) v).retire m.length c).cpu =
      { s.cpu with pc := s.cpu.pc + BitVec.ofNat 16 m.length, cycles := c } := by
    rw [State.retire_cpu, State.write_cpu]
  refine ⟨(s.write (s.effAddr m) v).retire m.length c, rfl, ?_, State.write_sched .., hcpu⟩
  exact (State.write_storedByte hs (s.effAddr m) v).congr rfl rfl rfl

/-- Settles O35: the opcodes off the map, and the operand put in the register of each mnemonic with N and Z from it. -/
theorem loadRules : Obligations.LoadRules := by
  refine ⟨hasOpcodes_of (by decide) (by decide), hasOpcodes_of (by decide) (by decide),
    hasOpcodes_of (by decide) (by decide), ?_⟩
  rintro i o s _ rfl
  refine ⟨fun hview => ?_, fun hview => ?_, fun hview => ?_⟩
  · exact exec_lda s hview ▸ readOp_of_eq (f := ldaStep) ((s.setA _).setNZ_eq _) _
  · exact exec_ldx s hview ▸ readOp_of_eq (f := ldxStep) ((s.setX _).setNZ_eq _) _
  · exact exec_ldy s hview ▸ readOp_of_eq (f := ldyStep) ((s.setY _).setNZ_eq _) _

/-- Settles O36: the opcodes off the map, and one write of the register of each mnemonic. -/
theorem storeRules : Obligations.StoreRules := by
  refine ⟨hasOpcodes_of (by decide) (by decide), hasOpcodes_of (by decide) (by decide),
    hasOpcodes_of (by decide) (by decide), ?_⟩
  rintro i k m s _ hs hview (⟨rfl, rfl⟩ | ⟨rfl, rfl⟩ | ⟨rfl, rfl⟩)
  · exact exec_sta s hview ▸ storeOp_stored hs _ m _
  · exact exec_stx s hview ▸ storeOp_stored hs _ m _
  · exact exec_sty s hview ▸ storeOp_stored hs _ m _

/-- Settles O37: the opcodes off the map, and each transfer as a register update, with N and Z but for TXS. -/
theorem transferRules : Obligations.TransferRules := by
  refine ⟨hasOpcodes_of (by decide) (by decide), hasOpcodes_of (by decide) (by decide),
    hasOpcodes_of (by decide) (by decide), hasOpcodes_of (by decide) (by decide),
    hasOpcodes_of (by decide) (by decide), hasOpcodes_of (by decide) (by decide), ?_⟩
  refine fun i s => ⟨fun hview => ?_, fun hview => ?_, fun hview => ?_, fun hview => ?_, fun hview => ?_,
    fun hview => ?_⟩
  · exact exec_tax s hview ▸ impliedOp_of_eq (g := taxStep) ((s.setX _).setNZ_eq _) 2
  · exact exec_tay s hview ▸ impliedOp_of_eq (g := tayStep) ((s.setY _).setNZ_eq _) 2
  · exact exec_txa s hview ▸ impliedOp_of_eq (g := txaStep) ((s.setA _).setNZ_eq _) 2
  · exact exec_tya s hview ▸ impliedOp_of_eq (g := tyaStep) ((s.setA _).setNZ_eq _) 2
  · exact exec_tsx s hview ▸ impliedOp_of_eq (g := tsxStep) ((s.setX _).setNZ_eq _) 2
  · exact exec_txs s hview ▸ impliedOp_of_eq (g := txsStep) (t := s.setS s.cpu.x) rfl 2

end Sys2Proof.Machine

/-! The branches, the jumps, the subroutine and the BRK and RTI instructions: O38 to O42. -/

namespace Sys2Proof.Machine

/-! The meaning of a control transfer, by its mnemonic and mode. -/

section
variable {i : Instr} (s : State)

/-- Every relative mode is a branch's, and a branch's condition is the one of `branchTaken` (43_branch_jump R271-R278). -/
theorem exec_branch {k : Mnemonic} {off : Byte} (h : i.view = .cpu k (.rel off)) :
    ∃ b, branchTaken s.cpu.p k = some b ∧ exec i s = branchOp b 2 off s := by
  cases i with
  | bcc | bcs | beq | bmi | bne | bpl | bvc | bvs =>
    cases h
    exact ⟨_, rfl, rfl⟩
  | _ => cases h

theorem exec_jmp_abs {w : Word} (h : i.view = .cpu .jmp (.src (.mem (.abs w)))) : exec i s = execJmpAbs w s := by
  cases i <;> cases h
  rfl

theorem exec_jmp_ind {w : Word} (h : i.view = .cpu .jmp (.ind w)) : exec i s = execJmpInd w s := by
  cases i <;> cases h
  rfl

theorem exec_jsr {w : Word} (h : i.view = .cpu .jsr (.src (.mem (.abs w)))) : exec i s = execJsr w s := by
  cases i <;> cases h
  rfl

theorem exec_rts (h : i.view = .cpu .rts .imp) : exec i s = execRts s := by
  cases i <;> cases h
  rfl

theorem exec_rti (h : i.view = .cpu .rti .imp) : exec i s = execRti s := by
  cases i <;> cases h
  rfl

theorem exec_brk (h : i.view = .cpu .brk .imp) : exec i s = execBrk s := by
  cases i <;> cases h
  rfl

end

/-! The targets, as numbers. -/

/-- A branch target is a signed sum (43_branch_jump R270). -/
theorem add_s8_eq_ofInt (w : Word) (off : Byte) : w + s8 off = BitVec.ofInt 16 (w.toNat + off.toInt) := by
  rw [BitVec.ofInt_add, BitVec.ofInt_natCast, BitVec.ofNat_toNat, BitVec.setWidth_eq]
  rfl

/-- The page of an address is its high byte. -/
theorem hi_eq_hi_iff {v w : Word} : hi v = hi w ↔ v.toNat / 256 = w.toNat / 256 := by
  rw [← BitVec.toNat_inj, hi_toNat, hi_toNat]

/-- The second byte of JMP's pointer comes from the page of the first (43_branch_jump R279). -/
theorem w16_lo_add_one_hi (w : Word) :
    w16 (lo w + 1) (hi w) = BitVec.ofNat 16 (w.toNat / 256 * 256 + (w.toNat % 256 + 1) % 256) := by
  have hlow : (lo w + 1).toNat = (w.toNat % 256 + 1) % 256 := by rw [BitVec.toNat_add, lo_toNat]; rfl
  rw [w16, hi_toNat, hlow]

/-- The address after the one that two bytes name, modulo 65536 (43_branch_jump R281). -/
theorem w16_add_one (l h : Byte) : w16 l h + 1 = BitVec.ofNat 16 (h.toNat * 256 + l.toNat + 1) :=
  (BitVec.ofNat_add ..).symm

/-! No Bus read sees the program counter or the returned cycles. -/

@[simp] theorem State.setPC_read (s : State) (w a : Word) : (s.setPC w).read a = s.read a :=
  State.read_congr rfl rfl rfl rfl rfl rfl rfl rfl a

@[simp] theorem State.setCycles_read (s : State) (n : Nat) (a : Word) : (s.setCycles n).read a = s.read a :=
  State.read_congr rfl rfl rfl rfl rfl rfl rfl rfl a

/-! What the shared operations leave. -/

/-- A branch that is taken goes to the signed sum, with one cycle more on another page than the next instruction's
(43_branch_jump R270). -/
theorem branchOp_taken {s : State} {off : Byte} {pcn target : Word} (hpcn : pcn = s.cpu.pc + 2)
    (htarget : target = BitVec.ofInt 16 (pcn.toNat + off.toInt)) :
    branchOp true 2 off s = .next ((s.setPC target).setCycles (if target.toNat / 256 = pcn.toNat / 256 then 3 else 4)) := by
  have hcycles : 2 + 1 + (decide (hi target ≠ hi pcn)).toNat = if target.toNat / 256 = pcn.toNat / 256 then 3 else 4 := by
    by_cases hpage : target.toNat / 256 = pcn.toNat / 256
    · rw [if_pos hpage, decide_eq_false (not_not_intro (hi_eq_hi_iff.2 hpage))]
      rfl
    · rw [if_neg hpage, decide_eq_true (mt hi_eq_hi_iff.1 hpage)]
      rfl
  rw [← hcycles, htarget, ← add_s8_eq_ofInt, hpcn]
  rfl

/-- The CPU that taking an exception leaves: S less 3, I set, and the program counter from the vector as it read before the
pushes (60_exceptions R413). -/
theorem State.enterVector_cpu {s : State} (hw : s.bus.map.WellFormed) (ret : Word) (brk : Bool) {k : Nat} (hk : k < 5) :
    (s.enterVector ret brk (BitVec.ofNat 16 (0xFFFA + k))).cpu = { s.cpu with
      s := s.cpu.s - 3, p := { s.cpu.p with i := true },
      pc := w16 (s.read (BitVec.ofNat 16 (0xFFFA + k))) (s.read (BitVec.ofNat 16 (0xFFFA + k) + 1)) } := by
  have hsp : s.cpu.s - 1 - 1 - 1 = s.cpu.s - 3 := by rw [sub_sub, sub_sub]; rfl
  have hpc := State.enterVector_pc hw ret brk hk
  obtain ⟨-, -, -, pc, hcpu⟩ := s.enterVector_frame ret brk (BitVec.ofNat 16 (0xFFFA + k))
  rw [hcpu] at hpc
  rw [hcpu, hsp, ← hpc]

/-! The statements. -/

/-- Settles O38: the opcodes off the map, and each branch by its condition. -/
theorem branchRules : Obligations.BranchRules := by
  refine ⟨hasOpcodes_of (by decide) (by decide), hasOpcodes_of (by decide) (by decide),
    hasOpcodes_of (by decide) (by decide), hasOpcodes_of (by decide) (by decide),
    hasOpcodes_of (by decide) (by decide), hasOpcodes_of (by decide) (by decide),
    hasOpcodes_of (by decide) (by decide), hasOpcodes_of (by decide) (by decide), ?_⟩
  intro i k off s pcn target hview hpcn htarget
  obtain ⟨b, hb, hexec⟩ := exec_branch s hview
  rw [hb, hexec]
  refine ⟨fun htaken => ?_, fun hnot => ?_, Option.some_ne_none b⟩
  · cases htaken
    exact branchOp_taken hpcn htarget
  · cases hnot
    cases hpcn
    rfl

/-- Settles O39: the opcodes off the map, and the indirect target with both bytes of the pointer from one page. -/
theorem jmpRule : Obligations.JmpRule := by
  refine ⟨hasOpcodes_of (by decide) (by decide), fun i w s => ⟨fun hview => ?_, fun hview => ?_⟩⟩
  · exact ⟨3, exec_jmp_abs s hview⟩
  · exact ⟨5, by rw [exec_jmp_ind s hview, execJmpInd, State.indirectTarget, w16_lo_add_one_hi]; rfl⟩

/-- Settles O40: the opcode off the map, and a pushed word; the third byte is read from the state that the pushes leave. -/
theorem jsrRule : Obligations.JsrRule := by
  refine ⟨hasOpcodes_of (by decide) (by decide), fun i w s hs hview => ?_⟩
  have hsp : s.cpu.s - 1 - 1 = s.cpu.s - 2 := sub_sub _ _ _
  refine ⟨_, 6, exec_jsr s hview, s.pushWord_sched _,
    (State.pushWord_pushed hs _).congr (fun _ => Iff.rfl) rfl rfl rfl, ?_⟩
  rw [State.setCycles_read, State.setPC_read, State.setCycles, State.setPC, State.pushWord_cpu, hsp]

/-- Settles O41: the opcodes off the map, and the bytes that the pulls read. -/
theorem returnRules : Obligations.ReturnRules := by
  refine ⟨hasOpcodes_of (by decide) (by decide), hasOpcodes_of (by decide) (by decide), ?_⟩
  rintro i s b1 b2 b3 rfl rfl rfl
  have htwo : s.cpu.s + 2 = s.cpu.s + 1 + 1 := (BitVec.add_assoc s.cpu.s 1 1).symm
  have hthree : s.cpu.s + 3 = s.cpu.s + 1 + 1 + 1 := by rw [← htwo]; exact (BitVec.add_assoc s.cpu.s 2 1).symm
  rw [← w16_add_one, htwo, hthree]
  refine ⟨fun hview => ⟨6, exec_rts s hview⟩, fun hview => ⟨6, ?_⟩⟩
  rw [exec_rti s hview, execRti, State.returnFromInterrupt_eq]
  rfl

/-- Settles O42: the opcode off the map, and an exception's entry through the IRQ vector with the break bit set. -/
theorem brkRule : Obligations.BrkRule := by
  refine ⟨hasOpcodes_of (by decide) (by decide), fun i s hs hview => ?_⟩
  obtain ⟨-, -, hsched, -⟩ := s.enterVector_frame (s.cpu.pc + 2) true irqVector
  refine ⟨_, 7, exec_brk s hview, hsched, ?_, ?_⟩
  · exact (State.enterVector_pushed hs (s.cpu.pc + 2) true irqVector).congr (fun _ => Iff.rfl) rfl rfl rfl
  · exact congrArg (fun c : CpuState => { c with cycles := 7 })
      (State.enterVector_cpu hs.1 (s.cpu.pc + 2) true (k := 4) (by decide))

end Sys2Proof.Machine

/-! The stack instructions: O43. -/

namespace Sys2Proof.Machine

/-- PHA and PHP make one push, at the slot that S names, and of the CPU they change S, the program counter and the returned
cycles only. -/
theorem impliedOp_pushed {s : State} (hs : s.MemoryCanonical) {g : State → State} {v : Byte}
    (hg : g s = s.push v) (c : Nat) :
    ∃ t, impliedOp g c s = .next t ∧ t.sched = s.sched ∧ s.Pushed t [(stackAddr s.cpu.s, v)] ∧
      t.cpu = { s.cpu with s := s.cpu.s - 1, pc := s.cpu.pc + 1, cycles := c } := by
  have hpushed : s.Pushed ((s.push v).retire 1 c) [(stackAddr s.cpu.s, v)] :=
    (State.push_pushed hs v).congr (fun _ => Iff.rfl) rfl rfl rfl
  refine ⟨(s.push v).retire 1 c, by rw [impliedOp, hg], s.push_sched v, hpushed, ?_⟩
  rw [State.retire_cpu, State.push_cpu]
  rfl

/-- PLA: a pull into A, and N and Z from the byte that it reads (44_stack R302). -/
theorem plaStep_eq (s : State) :
    plaStep s = (s.pop.setA s.pulled).setP (s.cpu.p.withNZ s.pulled.toNat) :=
  (s.pop.setA s.pulled).setNZ_eq s.pulled

/-- Settles O43: the opcodes off the map, the pushed byte of each mnemonic, and the byte that a pull reads. -/
theorem stackRules : Obligations.StackRules := by
  refine ⟨hasOpcodes_of (by decide) (by decide), hasOpcodes_of (by decide) (by decide),
    hasOpcodes_of (by decide) (by decide), hasOpcodes_of (by decide) (by decide), ?_, ?_⟩
  · rintro i k s hs hview (rfl | rfl)
    · obtain ⟨t, hnext, hsched, hpushed, hcpu⟩ := impliedOp_pushed hs (g := phaStep) rfl 3
      exact ⟨t, s.cpu.a, 3, (exec_pha s hview).trans hnext, hsched, hpushed, hcpu, fun _ => rfl, nofun⟩
    · obtain ⟨t, hnext, hsched, hpushed, hcpu⟩ := impliedOp_pushed hs (g := phpStep) rfl 3
      obtain ⟨hn, hv, h5, hb, hd, hi, hz, hc⟩ := s.cpu.p.getLsbD_pack true
      exact ⟨t, s.cpu.p.pack true, 3, (exec_php s hview).trans hnext, hsched, hpushed, hcpu, nofun,
        fun _ => ⟨hn, hv, h5, hb, hd, hi, hz, hc⟩⟩
  · rintro i s _ rfl
    refine ⟨fun hview => ?_, fun hview => ?_⟩
    · exact exec_pla s hview ▸ impliedOp_of_eq (plaStep_eq s) 4
    · exact exec_plp s hview ▸ impliedOp_of_eq (g := plpStep) rfl 4

end Sys2Proof.Machine

/-! The flag instructions and NOP: O44. -/

namespace Sys2Proof.Machine

/-- NOP is an instruction of one byte that does nothing (43_branch_jump R284). -/
theorem exec_nop {i : Instr} (s : State) (h : i.view = .cpu .nop .imp) : exec i s = impliedOp id 2 s := by
  cases i <;> cases h
  rfl

/-- An instruction of one byte that writes the flags at most leaves them, the program counter past the byte and the given
cycles, and nothing else. -/
theorem impliedOp_of_eq_setP {s : State} {g : State → State} {q : Flags} (h : g s = s.setP q) (c : Nat) :
    impliedOp g c s = .next { s with cpu := { s.cpu with p := q, pc := s.cpu.pc + 1, cycles := c } } := by
  rw [impliedOp, h]
  rfl

/-- Settles O44: the opcodes off the map, and the flags that each mnemonic leaves. -/
theorem flagRules : Obligations.FlagRules := by
  refine ⟨hasOpcodes_of (by decide) (by decide), hasOpcodes_of (by decide) (by decide),
    hasOpcodes_of (by decide) (by decide), hasOpcodes_of (by decide) (by decide),
    hasOpcodes_of (by decide) (by decide), hasOpcodes_of (by decide) (by decide),
    hasOpcodes_of (by decide) (by decide), hasOpcodes_of (by decide) (by decide), ?_⟩
  rintro i k s _ hview (⟨rfl, rfl⟩ | ⟨rfl, rfl⟩ | ⟨rfl, rfl⟩ | ⟨rfl, rfl⟩ | ⟨rfl, rfl⟩ | ⟨rfl, rfl⟩ | ⟨rfl, rfl⟩ |
    ⟨rfl, rfl⟩)
  · exact (exec_clc s hview).trans (impliedOp_of_eq_setP rfl 2)
  · exact (exec_sec s hview).trans (impliedOp_of_eq_setP rfl 2)
  · exact (exec_cli s hview).trans (impliedOp_of_eq_setP rfl 2)
  · exact (exec_sei s hview).trans (impliedOp_of_eq_setP rfl 2)
  · exact (exec_cld s hview).trans (impliedOp_of_eq_setP rfl 2)
  · exact (exec_sed s hview).trans (impliedOp_of_eq_setP rfl 2)
  · exact (exec_clv s hview).trans (impliedOp_of_eq_setP rfl 2)
  · exact (exec_nop s hview).trans (impliedOp_of_eq_setP rfl 2)

end Sys2Proof.Machine

/-! The Vector Processor: its words, its instructions and its run: O6, O45 to O49, O51 and O52. -/

namespace Sys2Proof

/-! What two words decode to, by the first one's opcode (46_vector_processor R324). -/

/-- A field of a word, in unsigned arithmetic. -/
theorem extractLsb'_eq_ofNat (w : Word) (k n : Nat) : w.extractLsb' k n = BitVec.ofNat n (w.toNat / 2 ^ k) := by
  rw [BitVec.extractLsb', Nat.shiftRight_eq_div_pow]

theorem extractLsb'_zero_eq_ofNat (w : Word) (n : Nat) : w.extractLsb' 0 n = BitVec.ofNat n w.toNat := rfl

theorem vctrFields_eq (w0 w1 : Word) : vctrFields w0 w1 =
    { u0 := w0.toNat.testBit 11, ysign := w0.toNat.testBit 10, dy := BitVec.ofNat 10 w0.toNat,
      z := BitVec.ofNat 4 (w1.toNat / 4096), u1 := w1.toNat.testBit 11, xsign := w1.toNat.testBit 10,
      dx := BitVec.ofNat 10 w1.toNat } := by
  rw [vctrFields, extractLsb'_eq_ofNat w1 12]
  rfl

theorem svecFields_eq (w : Word) : svecFields w =
    { s0 := w.toNat.testBit 11, ysign := w.toNat.testBit 10, dyh := BitVec.ofNat 2 (w.toNat / 256),
      z := BitVec.ofNat 4 (w.toNat / 16), s1 := w.toNat.testBit 3, xsign := w.toNat.testBit 2,
      dxh := BitVec.ofNat 2 w.toNat } := by
  rw [svecFields, extractLsb'_eq_ofNat w 8, extractLsb'_eq_ofNat w 4]
  rfl

theorem labsFields_eq (w0 w1 : Word) : labsFields w0 w1 =
    { y := BitVec.ofNat 12 w0.toNat, s := BitVec.ofNat 4 (w1.toNat / 4096), x := BitVec.ofNat 12 w1.toNat } := by
  rw [labsFields, extractLsb'_eq_ofNat w1 12]
  rfl

section
variable {w0 : Word} (w1 : Word)

/-- An opcode up to 9 is a VCTR with the opcode as its local scale (46_vector_processor R330). -/
theorem view_decodeVpWords_vctr (h : vpOpcode w0 ≤ 9) :
    (decodeVpWords w0 w1).view = .vp (.vctr (BitVec.ofNat 4 (vpOpcode w0)) (vctrFields w0 w1)) := by
  generalize hn : vpOpcode w0 = n at h ⊢
  interval_cases n <;> simp only [decodeVpWords, show (w0.extractLsb' 12 4).toNat = _ from hn] <;> rfl

/-- The opcodes from 11 to 14 are the control instructions, each with one 12-bit field (46_vector_processor R332-R335). -/
theorem decodeVpWords_control :
    (vpOpcode w0 = 11 → decodeVpWords w0 w1 = .halt (BitVec.ofNat 12 w0.toNat)) ∧
    (vpOpcode w0 = 12 → decodeVpWords w0 w1 = .jsrl (BitVec.ofNat 12 w0.toNat)) ∧
    (vpOpcode w0 = 13 → decodeVpWords w0 w1 = .rtsl (BitVec.ofNat 12 w0.toNat)) ∧
    (vpOpcode w0 = 14 → decodeVpWords w0 w1 = .jmpl (BitVec.ofNat 12 w0.toNat)) := by
  refine ⟨fun h => ?_, fun h => ?_, fun h => ?_, fun h => ?_⟩ <;>
    simp only [decodeVpWords, show (w0.extractLsb' 12 4).toNat = _ from h, extractLsb'_zero_eq_ofNat]

end

/-- The bytes of two words decode to what the two words do; a one-word instruction leaves the second word's bytes. -/
theorem decodeVp_wordBytes (w0 w1 : Word) :
    ∃ rest, decodeVp (wordBytes w0 ++ wordBytes w1) = .ok (decodeVpWords w0 w1, rest) := by
  have h := decodeVp_encode (decodeVpWords_isa w0 w1)
  simp only [encode_decodeVpWords] at h
  split at h
  · exact ⟨_, h (wordBytes w1)⟩
  · exact ⟨[], by simpa using h []⟩

/-- Whether an operation draws a segment (46_vector_processor R325). -/
def VpOp.draws : VpOp → Bool
  | .vctr _ _ | .labs _ | .svec _ => true
  | .halt _ | .jsrl _ | .rtsl _ | .jmpl _ => false

/-- The drawing operations are those of the opcodes up to 10 and of opcode 15. -/
theorem draws_decodeVpWords (w0 w1 : Word) : ∃ op, (decodeVpWords w0 w1).view = .vp op ∧
    (op.draws = true ↔ vpOpcode w0 ≤ 10 ∨ vpOpcode w0 = 15) := by
  have hlt : vpOpcode w0 < 16 := BitVec.isLt _
  have hcases : vpOpcode w0 ≤ 9 ∨ vpOpcode w0 = 10 ∨ vpOpcode w0 = 11 ∨ vpOpcode w0 = 12 ∨ vpOpcode w0 = 13 ∨
    vpOpcode w0 = 14 ∨ vpOpcode w0 = 15 := by omega
  obtain ⟨hhalt, hjsrl, hrtsl, hjmpl⟩ := decodeVpWords_control (w0 := w0) w1
  rcases hcases with h | h | h | h | h | h | h
  · exact ⟨_, view_decodeVpWords_vctr w1 h, iff_of_true rfl (by omega)⟩
  · exact ⟨_, congrArg Instr.view (decodeVpWords_labs h w1), iff_of_true rfl (by omega)⟩
  · exact ⟨_, congrArg Instr.view (hhalt h), iff_of_false Bool.noConfusion (by omega)⟩
  · exact ⟨_, congrArg Instr.view (hjsrl h), iff_of_false Bool.noConfusion (by omega)⟩
  · exact ⟨_, congrArg Instr.view (hrtsl h), iff_of_false Bool.noConfusion (by omega)⟩
  · exact ⟨_, congrArg Instr.view (hjmpl h), iff_of_false Bool.noConfusion (by omega)⟩
  · exact ⟨_, congrArg Instr.view (decodeVpWords_svec h w1), iff_of_true rfl (by omega)⟩

namespace Machine

/-- The opcode of the word at `vpc`. -/
theorem State.vpOpcode_vpWord0 (s : State) : vpOpcode s.vpWord0 = (s.vpRead s.vp.vpc).toNat / 4096 := vpOpcode_eq _

/-! The move of the beam (46_vector_processor R322, R326). -/

/-- A sign, a magnitude and the effective scale make a delta of so many beam units. -/
theorem delta_effScale (sg : Bool) (mag : Nat) (vscale ls : BitVec 4) :
    delta sg mag (effScale vscale ls) = signOf sg * mag * scaleUnit vscale ls := by
  unfold delta effScale scaleUnit signOf
  by_cases h : 9 < (vscale.toNat + ls.toNat) % 16
  · simp [h]
  · simp only [h, if_false]
    rfl

/-- The signed reading of a 12-bit field. -/
theorem sext12_eq (f : BitVec 12) : sext12 f = (f.toNat : Int) - (if f.toNat < 2048 then 0 else 4096) := by
  rw [sext12, BitVec.toInt_eq_toNat_cond]
  split <;> split <;> omega

/-! The drawing instructions: O45, O46 and O47. -/

/-- Settles O45: the fields off the decoder, and the delta in beam units. -/
theorem vctrRule : Obligations.VctrRule := by
  constructor
  · rintro s w0 w1 rfl rfl h
    rw [← s.vpOpcode_vpWord0] at h ⊢
    exact (view_decodeVpWords_vctr s.vpWord1 h).trans (by rw [vctrFields_eq]; rfl)
  · rintro i ls f s x y hview rfl rfl
    rw [exec_vctr s hview, vctrStep, delta_effScale, delta_effScale]
    rfl

theorem exec_svec {i : Instr} {f : SvecFields} (s : State) (h : i.view = .vp (.svec f)) :
    exec i s = .next (svecStep f s) := by
  cases i <;> cases h
  rfl

/-- Settles O46: the fields off the decoder, and the delta of a magnitude in 256s. -/
theorem svecRule : Obligations.SvecRule := by
  constructor
  · rintro s w0 rfl h
    rw [← s.vpOpcode_vpWord0] at h
    exact congrArg Instr.view ((decodeVpWords_svec h s.vpWord1).trans (congrArg Instr.svec (svecFields_eq _)))
  · rintro i f s x y ls hview rfl rfl rfl
    have hmag (n : Nat) : ((n * 256 : Nat) : Int) = 256 * n := by omega
    rw [exec_svec s hview, svecStep, delta_effScale, delta_effScale, hmag, hmag]
    rfl

/-- Settles O47: the fields off the decoder, and the signed reading of the coordinates. -/
theorem labsRule : Obligations.LabsRule := by
  constructor
  · rintro s w0 w1 rfl rfl h
    rw [← s.vpOpcode_vpWord0] at h
    exact (decodeVpWords_labs h s.vpWord1).trans (congrArg Instr.labs (labsFields_eq _ _))
  · rintro f s x y rfl rfl
    rw [← sext12_eq, ← sext12_eq]
    rfl

/-! The control instructions and the return stack: O48. -/

theorem VStack.get_set (v : VStack) (j k : Fin 4) (a : VAddr) : (v.set k a).get j = if j = k then a else v.get j := by
  fin_cases j <;> fin_cases k <;> rfl

/-- The stack pointer steps back modulo 4 (46_vector_processor R334, R338). -/
theorem val_sub_one (k : Fin 4) : (k - 1).val = (k.val + 3) % 4 := by
  revert k; decide

/-- Settles O48: the words off the decoder, and each instruction's effect. -/
theorem vpControlRules : Obligations.VpControlRules := by
  refine ⟨?_, fun u s => ⟨rfl, ?_, ?_, rfl⟩⟩
  · rintro s w0 rfl
    rw [← s.vpOpcode_vpWord0]
    exact decodeVpWords_control s.vpWord1
  · exact ⟨_, rfl, rfl, rfl, rfl, rfl, Fin.val_add s.vp.vsp 1, (VStack.get_set ..).trans (if_pos rfl),
      fun k hk => (VStack.get_set ..).trans (if_neg hk)⟩
  · exact ⟨_, rfl, rfl, rfl, rfl, rfl, val_sub_one s.vp.vsp⟩

/-! What an instruction reads and writes: O49. -/

/-- Two machines with one Vector Processor are left with one again, and with the same segment appended if the operation
draws. -/
theorem exec_vp_agree {i : Instr} {op : VpOp} (h : i.view = .vp op) {s s' : State} (hv : s.vp = s'.vp) :
    ∃ t t' g, exec i s = .next t ∧ exec i s' = .next t' ∧ t.vp = t'.vp ∧ g.length = op.draws.toNat ∧
      t.sched = { s.sched with segments := s.sched.segments ++ g } ∧
      t'.sched = { s'.sched with segments := s'.sched.segments ++ g } := by
  obtain ⟨c', b', v', d'⟩ := s'
  obtain rfl : s.vp = v' := hv
  cases i with
  | vctr0 | vctr1 | vctr2 | vctr3 | vctr4 | vctr5 | vctr6 | vctr7 | vctr8 | vctr9 | labs | svec =>
    cases h
    exact ⟨_, _, [_], rfl, rfl, rfl, rfl, rfl, rfl⟩
  | halt | jsrl | rtsl | jmpl =>
    cases h
    exact ⟨_, _, [], rfl, rfl, rfl, rfl, by rw [List.append_nil]; rfl, by rw [List.append_nil]; rfl⟩
  | _ => cases h

/-- Of the CPU an instruction changes the interrupt line at most, which it raises when it halts
(46_vector_processor R344, R345). -/
theorem exec_vp_cpu {i : Instr} (hi : i.isa = .vp) {s t : State} (hrun : s.vp.halted = false) (h : exec i s = .next t) :
    t.cpu = { s.cpu with irqPending := s.cpu.irqPending || t.vp.halted } := by
  cases i with
  | halt u =>
    cases h
    exact congrArg (fun b => { s.cpu with irqPending := b }) (Bool.or_true _).symm
  | vctr0 | vctr1 | vctr2 | vctr3 | vctr4 | vctr5 | vctr6 | vctr7 | vctr8 | vctr9 | labs | jsrl | rtsl | jmpl | svec =>
    cases h
    exact congrArg (fun b => { s.cpu with irqPending := b }) (hrun ▸ Bool.or_false _).symm
  | _ => cases hi

/-- Settles O49: the two machines fetch the same instruction, and run it alike. -/
theorem vpIsolation : Obligations.VpIsolation := by
  intro s s' hw hm hv hrun hvram hrom
  have hfetch : s.vpFetch = s'.vpFetch := State.vpFetch_congr hw hm hvram hrom (congrArg VpState.vpc hv)
  obtain ⟨op, hview, hdraws⟩ := draws_decodeVpWords s.vpWord0 s.vpWord1
  obtain ⟨t, t', g, ht, ht', hvp, hlen, hsched, hsched'⟩ := exec_vp_agree hview hv
  refine ⟨t, t', g, ht, hfetch ▸ ht', hvp, (exec_vpFrame s.vpFetch_isa ht).bus, exec_vp_cpu s.vpFetch_isa hrun ht, hsched,
    hsched', ?_, ?_⟩
  · rw [← vpOpcode_eq, ← hdraws, hlen]
    exact Bool.toNat_eq_one
  · rw [hlen]
    exact Bool.toNat_le _

/-! The run and its budget: O51 and O52. -/

/-- What holds of a run that does nothing, and of one instruction when it holds of the rest of the run, holds of every
run (46_vector_processor R341). -/
theorem vpRun_induction {p : Nat → State → Prop}
    (stop : ∀ b s, s.vp.halted = true ∨ b < s.vpCost → p b s)
    (step : ∀ b s t, s.vp.halted = false → s.vpCost ≤ b → exec s.vpFetch s = .next t → p (b - s.vpCost) t → p b s)
    (b : Nat) (s : State) : p b s := by
  induction b using Nat.strong_induction_on generalizing s with
  | _ b ih =>
    by_cases h : s.vp.halted = true ∨ b < s.vpCost
    · exact stop b s h
    · rw [not_or, Bool.not_eq_true, Nat.not_lt] at h
      obtain ⟨hrun, hfits⟩ := h
      obtain ⟨t, ht⟩ := exec_total s.vpFetch s
      have hpos := s.vpCost_pos
      exact step b s t hrun hfits ht (ih _ (by omega) t)

/-- The equation of a run whose first instruction fits. -/
theorem vpRun_of_exec {b : Nat} {s t : State} (hrun : s.vp.halted = false) (hfits : s.vpCost ≤ b)
    (ht : exec s.vpFetch s = .next t) :
    vpRun b s = (s.vpCost + (vpRun (b - s.vpCost) t).1, (vpRun (b - s.vpCost) t).2) := by
  obtain ⟨u, hu, h⟩ := vpRun_step hrun hfits
  obtain rfl := Host.Outcome.next.inj (ht.symm.trans hu)
  exact h

theorem vpRun_used_le (b : Nat) (s : State) : (vpRun b s).1 ≤ b := by
  induction b, s using vpRun_induction with
  | stop b s hstop => rw [vpRun_stop hstop]; exact Nat.zero_le b
  | step b s t hrun hfits ht ih => rw [vpRun_of_exec hrun hfits ht]; simp only; omega

/-- A run ends halted, or where the next instruction's whole cost does not fit. -/
theorem vpRun_ends (b : Nat) (s : State) :
    (vpRun b s).2.vp.halted = true ∨ b < (vpRun b s).1 + (vpRun b s).2.vpCost := by
  induction b, s using vpRun_induction with
  | stop b s hstop => rw [vpRun_stop hstop]; exact hstop.imp_right fun hlt => by simpa using hlt
  | step b s t hrun hfits ht ih => rw [vpRun_of_exec hrun hfits ht]; exact ih.imp_right fun hlt => by simp only; omega

/-- Settles O51. -/
theorem vpRunContract : Obligations.VpRunContract := fun b s =>
  ⟨vpRun_used_le b s, vpRun_ends b s, vpRun_stop, vpRun_step⟩

/-- Settles O52, by induction on the first run: an instruction that fits its budget fits the sum. -/
theorem vpRunResumable : Obligations.VpRunResumable := by
  intro b1 b2 s
  induction b1, s using vpRun_induction with
  | stop b s hstop => rw [vpRun_stop hstop]; simp only [Nat.sub_zero, Nat.zero_add]
  | step b s t hrun hfits ht ih =>
    have hsum : b + b2 - s.vpCost = b - s.vpCost + b2 := by omega
    have hrest (n : Nat) : b - (s.vpCost + n) = b - s.vpCost - n := by omega
    rw [vpRun_of_exec hrun hfits ht, vpRun_of_exec hrun (by omega) ht, hsum, ih]
    simp only [hrest, Nat.add_assoc]

/-- Settles O6: the bookkeeping has the check of R341 in it, and any two words decode. -/
theorem vpStepRunsDecoded : Obligations.VpStepRunsDecoded := by
  intro s hs hfault hturn
  have hready := hs.turn.1 hturn
  rw [State.vpReady, Bool.and_eq_true, Bool.not_eq_true', decide_eq_true_eq] at hready
  obtain ⟨hrun, hfits⟩ := hready
  obtain ⟨rest, hdecode⟩ := decodeVp_wordBytes s.vpWord0 s.vpWord1
  rcases step_next hfault with ⟨hcpu, -⟩ | ⟨-, t, ht, hstep⟩
  · exact Turn.noConfusion (hcpu.symm.trans hturn)
  · exact ⟨hrun, hfits, rest, t, hdecode, Instr.wellFormed_iff.2 s.vpFetch_isa, ht, hstep⟩

end Machine

end Sys2Proof

/-! The CPU and the Vector Processor's registers: O50. -/

namespace Sys2Proof.Machine

/-- The Vector Processor after a DMAGO write (46_vector_processor R340). -/
def VpState.started (v : VpState) : VpState := { v with vpc := Config.vpStartWord, vsp := 0, halted := false }

theorem State.startVp_eq (s : State) : s.startVp = s.setVp s.vp.started := rfl

/-- Whatever Vector Processor with the halted flag of `s` stands beside the rest of `s`, `f` makes the same of the rest, and
it keeps the Vector Processor or starts it. -/
def BlindToVp (f : State → State) (s : State) : Prop :=
  ∃ g : VpState → VpState, (g = id ∨ g = VpState.started) ∧
    ∀ v, v.halted = s.vp.halted → f (s.setVp v) = (f s).setVp (g v)

/-! No Bus read sees more of the Vector Processor than the halted flag (20_memory R114). -/

section
variable {s : State} {v : VpState} (hv : v.halted = s.vp.halted)
include hv

theorem State.setVp_read (a : Word) : (s.setVp v).read a = s.read a :=
  State.read_congr (s := s.setVp v) (t := s) rfl rfl rfl rfl rfl rfl rfl hv a

theorem State.setVp_read16 (a : Word) : (s.setVp v).read16 a = s.read16 a := by
  simp only [State.read16, State.setVp_read hv]

theorem State.setVp_pulled : (s.setVp v).pulled = s.pulled := State.setVp_read hv _

theorem State.setVp_baseAddr (m : MemMode) : (s.setVp v).baseAddr m = s.baseAddr m := by
  cases m <;> simp only [State.baseAddr, State.zpPointer, State.setVp_read hv, State.setVp_cpu]

theorem State.setVp_effAddr (m : MemMode) : (s.setVp v).effAddr m = s.effAddr m := by
  simp only [State.effAddr, State.setVp_baseAddr hv, State.setVp_cpu]

theorem State.setVp_operand (o : Operand) : (s.setVp v).operand o = s.operand o := by
  cases o with
  | imm b => rfl
  | mem m => simp only [State.operand, State.setVp_effAddr hv, State.setVp_read hv]

theorem State.setVp_readPenalty (o : Operand) : (s.setVp v).readPenalty o = s.readPenalty o := by
  cases o with
  | imm b => rfl
  | mem m => simp only [State.readPenalty, State.crossed, State.setVp_effAddr hv, State.setVp_baseAddr hv]

theorem State.setVp_fetchBytes : (s.setVp v).fetchBytes = s.fetchBytes := by
  simp only [State.fetchBytes, State.setVp_read hv, State.setVp_cpu]

end

/-! How blindness is put together. -/

section
variable {s : State} {f g h : State → State}

/-- A function that leaves the Vector Processor alone. -/
theorem BlindToVp.of_comm (hf : ∀ v, v.halted = s.vp.halted → f (s.setVp v) = (f s).setVp v) : BlindToVp f s :=
  ⟨id, .inl rfl, hf⟩

/-- One function after another: to keep or start, and then to keep or start, is to keep or start. -/
theorem BlindToVp.comp (hf : BlindToVp f s) (hg : BlindToVp g (f s))
    (hh : ∀ v, v.halted = s.vp.halted → h (s.setVp v) = g (f (s.setVp v))) : BlindToVp h s := by
  obtain ⟨kf, hkf, hf⟩ := hf
  obtain ⟨kg, hkg, hg⟩ := hg
  have hs : h s = g (f s) := hh s.vp rfl
  have hvp : (f s).vp = kf s.vp := congrArg State.vp (hf s.vp rfl)
  refine ⟨kg ∘ kf, ?_, fun v hv => ?_⟩
  · rcases hkf with rfl | rfl <;> rcases hkg with rfl | rfl
    · exact .inl rfl
    · exact .inr rfl
    · exact .inr rfl
    · exact .inr rfl
  · have hhalted : (kf v).halted = (f s).vp.halted := by
      rw [hvp]
      rcases hkf with rfl | rfl
      · exact hv
      · rfl
    rw [hh v hv, hf v hv, hg (kf v) hhalted, hs]
    rfl

end

theorem State.setCycles_blindToVp (s : State) (n : Nat) : BlindToVp (fun t => t.setCycles n) s := .of_comm fun _ _ => rfl

theorem State.retire_blindToVp (s : State) (l c : Nat) : BlindToVp (fun t => t.retire l c) s := .of_comm fun _ _ => rfl

/-- A Bus write starts the Vector Processor at the trigger, and elsewhere leaves it alone (20_memory R115). -/
theorem State.write_blindToVp (s : State) (a : Word) (b : Byte) : BlindToVp (fun t => t.write a b) s := by
  by_cases htrigger : s.bus.map.classify a = .dmago
  · refine ⟨VpState.started, .inr rfl, fun v _ => ?_⟩
    show (s.setVp v).write a b = (s.write a b).setVp v.started
    rw [State.write_at_dmago htrigger, State.write_at_dmago (s := s.setVp v) htrigger]
    rfl
  · refine .of_comm fun v _ => ?_
    simp only [State.write, State.setVp_bus]
    split <;> first | rfl | contradiction

theorem State.push_blindToVp (s : State) (b : Byte) : BlindToVp (fun t => t.push b) s :=
  (s.write_blindToVp (stackAddr s.cpu.s) b).comp (g := fun t => t.setS (s.cpu.s - 1)) (.of_comm fun _ _ => rfl)
    fun _ _ => rfl

theorem State.pushWord_blindToVp (s : State) (w : Word) : BlindToVp (fun t => t.pushWord w) s :=
  (s.push_blindToVp (hi w)).comp ((s.push (hi w)).push_blindToVp (lo w)) fun _ _ => rfl

theorem State.enterVector_blindToVp (s : State) (ret : Word) (brk : Bool) (vec : Word) :
    BlindToVp (fun t => t.enterVector ret brk vec) s := by
  have hpush := (s.pushWord_blindToVp ret).comp ((s.pushWord ret).push_blindToVp (s.cpu.p.pack brk))
    (h := fun t => (t.pushWord ret).push (s.cpu.p.pack brk)) fun _ _ => rfl
  refine hpush.comp (g := fun t => (t.setP { t.cpu.p with i := true }).setPC (t.read16 vec)) (.of_comm fun v hv => ?_)
    fun _ _ => rfl
  simp only [State.setVp_read16 hv]
  rfl

theorem State.interruptEntry_blindToVp (s : State) (vec : Word) : BlindToVp (fun t => t.interruptEntry vec) s :=
  (s.enterVector_blindToVp s.cpu.pc false vec).comp (State.setCycles_blindToVp _ 7) fun _ _ => rfl

/-! The functions of the mnemonics do not see the Vector Processor. -/

theorem readStep_setVp {k : Mnemonic} {f : Byte → State → State} (h : readStep k = some f) (m : Byte) (s : State)
    (v : VpState) : f m (s.setVp v) = (f m s).setVp v := by
  cases k with
  | adc | sbc | cmp | cpx | cpy | and | ora | eor | bit | lda | ldx | ldy => cases h; rfl
  | _ => cases h

theorem impliedStep_blindToVp {k : Mnemonic} {f : State → State} (h : impliedStep k = some f) (s : State) :
    BlindToVp f s := by
  cases k with
  | pha => cases h; exact s.push_blindToVp s.cpu.a
  | php => cases h; exact s.push_blindToVp (s.cpu.p.pack true)
  | pla =>
    cases h
    refine .of_comm fun v hv => ?_
    simp only [plaStep, State.setVp_pulled hv]
    rfl
  | plp =>
    cases h
    refine .of_comm fun v hv => ?_
    simp only [plpStep, State.setVp_pulled hv]
    rfl
  | inx | iny | dex | dey | tax | tay | txa | tya | tsx | txs | nop | clc | sec | cli | sei | cld | sed | clv =>
    cases h
    exact .of_comm fun _ _ => rfl
  | _ => cases h

/-- A branch leaves the Vector Processor alone, taken or not. -/
theorem branchOp_setVp (b : Bool) (c : Nat) (off : Byte) (s : State) :
    ∃ t : State, ∀ v, branchOp b c off (s.setVp v) = .next (t.setVp v) := by
  cases b with
  | false => exact ⟨(s.setPC (s.cpu.pc + 2)).setCycles c, fun _ => rfl⟩
  | true => exact ⟨(s.setPC (s.cpu.pc + 2 + s8 off)).setCycles
      (c + 1 + (decide (hi (s.cpu.pc + 2 + s8 off) ≠ hi (s.cpu.pc + 2))).toNat), fun _ => rfl⟩

/-! The CPU step. -/

/-- The outcome of `x` is the next state that a function blind to the Vector Processor makes. -/
def OutcomeBlindToVp (x : State → Host.Outcome State Fault Refusal) (s : State) : Prop :=
  ∃ f, BlindToVp f s ∧ ∀ v, v.halted = s.vp.halted → x (s.setVp v) = .next (f (s.setVp v))

/-- An outcome that leaves the Vector Processor alone. -/
theorem OutcomeBlindToVp.of_comm {x : State → Host.Outcome State Fault Refusal} {s t : State}
    (hx : ∀ v, v.halted = s.vp.halted → x (s.setVp v) = .next (t.setVp v)) : OutcomeBlindToVp x s :=
  ⟨fun u => t.setVp u.vp, .of_comm fun _ _ => rfl, hx⟩

/-- A CPU instruction is blind to the Vector Processor, by the form of its meaning. -/
theorem CpuForm.outcomeBlindToVp {k : Mnemonic} {x : State → Host.Outcome State Fault Refusal} (hx : CpuForm k x)
    (s : State) : OutcomeBlindToVp x s := by
  cases hx with
  | @read _ f hk c o =>
    refine .of_comm (t := (f (s.operand o) s).retire o.length (c + s.readPenalty o)) fun v hv => ?_
    rw [readOp, State.setVp_operand hv, State.setVp_readPenalty hv, readStep_setVp hk]
    rfl
  | @store _ r hk c m =>
    refine ⟨fun t => (t.write (s.effAddr m) (r s.cpu)).retire m.length c,
      (s.write_blindToVp (s.effAddr m) (r s.cpu)).comp (State.retire_blindToVp _ m.length c) fun _ _ => rfl,
      fun v hv => ?_⟩
    simp only [storeOp, State.setVp_effAddr hv, State.setVp_cpu]
  | @modify _ f hk c m =>
    rcases hr : f s.cpu.p (s.read (s.effAddr m)) with ⟨b, p⟩
    refine ⟨fun t => ((t.write (s.effAddr m) b).setP p).retire m.length c,
      (s.write_blindToVp (s.effAddr m) b).comp (g := fun t => (t.setP p).retire m.length c)
        (.of_comm fun _ _ => rfl) fun _ _ => rfl,
      fun v hv => ?_⟩
    simp only [modifyMem, State.setVp_effAddr hv, State.setVp_read hv, State.setVp_cpu, hr]
  | @shift _ f hk c =>
    exact .of_comm (t := ((s.setA (f s.cpu.p s.cpu.a).1).setP (f s.cpu.p s.cpu.a).2).retire 1 c) fun _ _ => rfl
  | @implied _ f hk c =>
    exact ⟨fun t => (f t).retire 1 c,
      (impliedStep_blindToVp hk s).comp (State.retire_blindToVp _ 1 c) fun _ _ => rfl, fun _ _ => rfl⟩
  | @branch _ b hk off =>
    obtain ⟨t, ht⟩ := branchOp_setVp (b s.cpu.p) 2 off s
    exact .of_comm fun v _ => ht v
  | jmpAbs w => exact .of_comm (t := (s.setPC w).setCycles 3) fun _ _ => rfl
  | jmpInd w =>
    refine .of_comm (t := (s.setPC (s.indirectTarget w)).setCycles 5) fun v hv => ?_
    simp only [execJmpInd, State.indirectTarget, State.setVp_read hv]
    rfl
  | jsr w =>
    refine ⟨fun t => ((t.pushWord (s.cpu.pc + 2)).setPC
        (w16 (lo w) ((t.pushWord (s.cpu.pc + 2)).read (s.cpu.pc + 2)))).setCycles 6,
      (s.pushWord_blindToVp (s.cpu.pc + 2)).comp
        (g := fun t => (t.setPC (w16 (lo w) (t.read (s.cpu.pc + 2)))).setCycles 6)
        (.of_comm fun v hv => ?_) fun _ _ => rfl,
      fun _ _ => rfl⟩
    simp only [State.setVp_read hv]
    rfl
  | rts =>
    refine .of_comm (t := (s.pop.pop.setPC (w16 s.pulled s.pop.pulled + 1)).setCycles 6) fun v hv => ?_
    have hnext : (s.setVp v).pop.pulled = s.pop.pulled := State.setVp_pulled (s := s.pop) hv
    simp only [execRts, State.setVp_pulled hv, hnext]
    rfl
  | brk =>
    exact ⟨fun t => (t.enterVector (s.cpu.pc + 2) true irqVector).setCycles 7,
      (s.enterVector_blindToVp (s.cpu.pc + 2) true irqVector).comp (State.setCycles_blindToVp _ 7) fun _ _ => rfl,
      fun _ _ => rfl⟩
  | rti =>
    refine .of_comm (t := s.returnFromInterrupt.setCycles 6) fun v hv => ?_
    simp only [execRti, State.returnFromInterrupt_eq, State.setVp_read hv, State.setVp_cpu]
    rfl

/-- The instruction half of a CPU step fetches alike, and runs the instruction or records the fault. -/
theorem cpuInstruction_outcomeBlindToVp (s : State) : OutcomeBlindToVp cpuInstruction s := by
  rcases hd : decode .cpu s.fetchBytes with e | ⟨i, rest⟩
  · refine .of_comm (t := s.raiseDecodeFault) fun v hv => ?_
    simp only [cpuInstruction, State.setVp_fetchBytes hv, hd, State.raiseDecodeFault, State.setVp_read hv]
    rfl
  · have hi : i.isa = .cpu := fetch_isa hd
    rcases hview : i.view with ⟨k, md⟩ | op
    · obtain ⟨f, hf, hx⟩ := (exec_form hview).outcomeBlindToVp s
      refine ⟨f, hf, fun v hv => ?_⟩
      simp only [cpuInstruction, State.setVp_fetchBytes hv, hd, hx v hv]
    · rw [Instr.isa, hview] at hi
      exact Isa.noConfusion hi

/-- The poll sees nothing of the Vector Processor, and an interrupt entry no more than its pushes do. -/
theorem cpuStep_outcomeBlindToVp (s : State) : OutcomeBlindToVp cpuStep s := by
  by_cases hnmi : s.cpu.nmiPending = true
  · refine ⟨fun t => (t.setNmi false).interruptEntry nmiVector, (s.setNmi false).interruptEntry_blindToVp nmiVector,
      fun v _ => ?_⟩
    rw [cpuStep, State.pollInterrupt, State.setVp_cpu, if_pos hnmi]
  · by_cases hirq : (s.cpu.irqPending && !s.cpu.p.i) = true
    · refine ⟨fun t => (t.setIrq false).interruptEntry irqVector, (s.setIrq false).interruptEntry_blindToVp irqVector,
        fun v _ => ?_⟩
      rw [cpuStep, State.pollInterrupt, State.setVp_cpu, if_neg hnmi, if_pos hirq]
    · obtain ⟨f, hf, hx⟩ := cpuInstruction_outcomeBlindToVp s
      refine ⟨f, hf, fun v hv => ?_⟩
      rw [cpuStep, State.pollInterrupt, State.setVp_cpu, if_neg hnmi, if_neg hirq]
      exact hx v hv

/-- Settles O50: the second machine is the first with another Vector Processor beside it. -/
theorem cpuBlindToVp : Obligations.CpuBlindToVp := by
  rintro s ⟨c', b', v, d'⟩ t rfl rfl rfl hv h
  obtain ⟨f, ⟨g, hg, hf⟩, hx⟩ := cpuStep_outcomeBlindToVp s
  obtain rfl : t = f s := Host.Outcome.next.inj (h.symm.trans (hx s.vp rfl))
  have hvp : (f s).vp = g s.vp := congrArg State.vp (hf s.vp rfl)
  refine ⟨(f s).setVp (g v), (hx v hv).trans (congrArg _ (hf v hv)), rfl, rfl, rfl, ?_⟩
  rw [hvp]
  rcases hg with rfl | rfl
  · exact .inl ⟨rfl, rfl⟩
  · exact .inr ⟨rfl, rfl⟩

end Sys2Proof.Machine

/-! The Scheduler's bookkeeping over a step: O13. -/

namespace Sys2Proof.Machine

theorem State.SchedulerOk.congr {s t : State} (hs : s.SchedulerOk) (hd : t.sched = s.sched) (hv : t.vp = s.vp)
    (hr : t.vpReady = s.vpReady) : t.SchedulerOk := by
  obtain ⟨hturn, hcredit, hbudget, hopen, hused, hover⟩ := hs
  rw [← hd] at hturn hcredit hbudget hopen hused hover
  exact ⟨hr ▸ hturn, hv ▸ hcredit, hbudget, hopen, hused, hover⟩

/-- The three ways of a hand-over: to the Vector Processor, to the CPU inside the frame, and to the CPU at the frame's end
(46_vector_processor R341; 60_exceptions R430). -/
theorem State.handOver_three (s : State) :
    (s.vpReady = true ∧ s.handOver = s.setSched { s.sched with turn := .vp }) ∨
    (s.vpReady = false ∧ s.sched.used < s.sched.budget ∧ s.handOver = s.setSched { s.sched with turn := .cpu }) ∨
    (s.vpReady = false ∧ s.sched.budget ≤ s.sched.used ∧
      s.handOver = s.setSched { s.sched with
        turn := .cpu, frameOpen := false, frameOvershoot := s.sched.used - s.sched.budget }) := by
  rcases s.handOver_cases with h | ⟨hr, h⟩
  · exact .inl h
  · rcases SchedState.close_cases { s.sched with turn := .cpu } with ⟨hlt, hc⟩ | ⟨hle, hc⟩
    · exact .inr (.inl ⟨hr, hlt, h.trans (congrArg s.setSched hc)⟩)
    · exact .inr (.inr ⟨hr, hle, h.trans (congrArg s.setSched hc)⟩)

/-- The hand-over puts the turn in order, and the frame's end too, when at most six cycles are used past the budget. -/
theorem State.handOver_schedulerOk {s : State} (hcredit : s.vp.halted = true → s.sched.vpCredit = 0)
    (hbudget : s.sched.frameOpen = true → s.sched.budget = Config.frameCycles - s.sched.frameOvershoot)
    (hused : s.sched.used ≤ s.sched.budget + 6) (hover : s.sched.frameOvershoot ≤ 6) : s.handOver.SchedulerOk := by
  have hready := s.handOver_vpReady
  rcases s.handOver_three with ⟨hr, h⟩ | ⟨hr, hlt, h⟩ | ⟨hr, -, h⟩ <;> rw [h, hr] at hready <;> rw [h]
  · exact ⟨iff_of_true rfl hready, hcredit, hbudget, fun _ hcpu => Turn.noConfusion hcpu, hused, hover⟩
  · exact ⟨iff_of_false Turn.noConfusion (Bool.eq_false_iff.1 hready), hcredit, hbudget, fun _ _ => hlt, hused, hover⟩
  · exact ⟨iff_of_false Turn.noConfusion (Bool.eq_false_iff.1 hready), hcredit, fun ho => Bool.noConfusion ho,
      fun ho => Bool.noConfusion ho, hused, Nat.sub_le_iff_le_add'.2 hused⟩

/-- A frame that begins has its whole budget before it. -/
theorem State.beginFrame_schedulerOk {s : State} (hm : s.bus.map.WellFormed) (hs : s.SchedulerOk) :
    s.beginFrame.SchedulerOk := by
  obtain ⟨hram, hvram, hrom, -, hmap⟩ := s.beginFrame_stores
  rcases s.beginFrame_cases with ⟨-, h⟩ | ⟨-, inp, rest, h⟩
  · rwa [h]
  · have hsched : s.beginFrame.sched = { s.sched with
        pendingInputs := rest, segments := [], budget := Config.frameCycles - s.sched.frameOvershoot, used := 0,
        frameOpen := true } := by rw [h]; rfl
    have hready : s.beginFrame.vpReady = s.vpReady :=
      State.vpReady_congr (hmap.symm ▸ hm) hmap hvram hrom s.beginFrame_vp (by rw [hsched])
    have hover := hs.overshoot
    have hpos : 0 < Config.frameCycles - s.sched.frameOvershoot := show 0 < 25200 - s.sched.frameOvershoot by omega
    constructor <;> rw [hsched]
    case turn => exact hready ▸ hs.turn
    case credit => exact s.beginFrame_vp ▸ hs.credit
    case budget => exact fun _ => rfl
    case open_ => exact fun _ _ => hpos
    case used => exact Nat.zero_le _
    case overshoot => exact hover

/-- A CPU step in an open frame uses at most seven cycles, the first of them inside the budget, and leaves a halted Vector
Processor as it was or starts it. -/
theorem State.afterCpuStep_schedulerOk {s u : State} (hs : s.SchedulerOk) (ho : s.sched.frameOpen = true)
    (ht : s.sched.turn = .cpu) (hk : StepKeeps s u) (hf : u.cpu.fault = none) : u.afterCpuStep.SchedulerOk := by
  obtain ⟨b, k, h⟩ := State.afterCpuStep_eq hf
  have hlt := hs.open_ ho ht
  have hmost := hk.most
  have hhalted : u.vp.halted = true → s.vp.halted = true := by
    rcases hk.vp with hv | hv <;> rw [hv]
    · exact id
    · exact fun hstart => Bool.noConfusion hstart
  rw [h]
  apply State.handOver_schedulerOk <;> simp only [hk.sched]
  · intro hu
    rw [if_pos hu]
    exact hs.credit (hhalted hu)
  · exact hs.budget
  · omega
  · exact hs.overshoot

/-- The decode fault's step changes nothing that the bookkeeping speaks of. -/
theorem State.raiseDecodeFault_schedulerOk {s : State} (hm : s.bus.map.WellFormed) (hs : s.SchedulerOk) :
    s.raiseDecodeFault.afterCpuStep.SchedulerOk :=
  hs.congr rfl rfl (State.vpReady_congr hm rfl rfl rfl rfl rfl)

/-- An instruction of the Vector Processor uses none of the frame's cycles, and its charge leaves a halted one no
credit. -/
theorem State.afterVpInstr_schedulerOk {s u : State} (hs : s.SchedulerOk) (hk : VpFrame s u) (cost : Nat) :
    (u.afterVpInstr cost).SchedulerOk := by
  have hsched := hk.sched
  apply State.handOver_schedulerOk <;> simp only [State.setSched_sched, State.setSched_vp]
  · exact fun hu => if_pos hu
  all_goals rw [hsched]
  · exact hs.budget
  · exact hs.used
  · exact hs.overshoot

/-- Settles O13: every turn but a decode fault's ends in the hand-over, which puts the bookkeeping in order. -/
theorem stepKeepsSchedulerOk : Obligations.StepKeepsSchedulerOk := by
  intro s t hmem hs h
  obtain ⟨hfault, ⟨ht, u, hu, rfl⟩ | ⟨-, u, hu, rfl⟩⟩ := step_cases h
  · have hbegin := State.beginFrame_schedulerOk hmem.1 hs
    have hturn : s.beginFrame.sched.turn = .cpu := by
      rcases s.beginFrame_cases with ⟨-, hb⟩ | ⟨-, _, _, hb⟩ <;> rw [hb] <;> exact ht
    obtain ⟨v, hv, hk, hcase⟩ := cpuStep_next s.beginFrame
    obtain rfl := Host.Outcome.next.inj (hu.symm.trans hv)
    rcases hcase with ⟨hf, -⟩ | ⟨-, -, rfl⟩
    · have hnone : u.cpu.fault = none := hf.trans (s.beginFrame_cpu ▸ hfault)
      exact State.afterCpuStep_schedulerOk hbegin s.beginFrame_frameOpen hturn hk hnone
    · exact State.raiseDecodeFault_schedulerOk (State.beginFrame_memoryCanonical hmem).1 hbegin
  · exact State.afterVpInstr_schedulerOk hs (exec_vpFrame s.vpFetch_isa hu) s.vpCost

end Sys2Proof.Machine

/-! The NMI timer and the accounting of a CPU step: O14 and O58. -/

namespace Sys2Proof.Machine

/-! The NMI timer (60_exceptions R420). -/

/-- The loop does nothing while its phase is ahead. -/
theorem State.nmiLoop_of_lt {s : State} (h : s.cpu.cycleCount < s.sched.nmiPhase) (n : Nat) :
    State.nmiLoop n s = s := by
  cases n with
  | zero => rfl
  | succ n => exact if_neg (Nat.not_le.2 h)

/-- A timer less than one period late makes one turn. -/
theorem State.nmiTimer_of_due {s : State} (hdue : s.sched.nmiPhase ≤ s.cpu.cycleCount)
    (hlate : s.cpu.cycleCount < s.sched.nmiPhase + Config.nmiPeriod) : s.nmiTimer = s.nmiTick := by
  have hfuel : s.cpu.cycleCount + 1 - s.sched.nmiPhase = s.cpu.cycleCount - s.sched.nmiPhase + 1 := by omega
  rw [State.nmiTimer, hfuel, State.nmiLoop, if_pos hdue]
  exact State.nmiLoop_of_lt hlate _

/-! The accounting of a CPU step (60_exceptions R430). -/

/-- The state between a CPU step and the hand-over: the cycles counted, the NMI requested when the total has reached its
phase, and a running Vector Processor credited. -/
def State.accounted (s : State) : State :=
  { cpu := { s.cpu with
      cycleCount := s.cpu.cycleCount + s.cpu.cycles,
      nmiPending := s.cpu.nmiPending || decide (s.sched.nmiPhase ≤ s.cpu.cycleCount + s.cpu.cycles) },
    bus := s.bus, vp := s.vp,
    sched := { s.sched with
      used := s.sched.used + s.cpu.cycles,
      nmiPhase := if s.sched.nmiPhase ≤ s.cpu.cycleCount + s.cpu.cycles then s.sched.nmiPhase + Config.nmiPeriod
                  else s.sched.nmiPhase,
      vpCredit := if s.vp.halted then s.sched.vpCredit
                  else s.sched.vpCredit + s.cpu.cycles * Config.vpClockRatio } }

/-- A step of at most seven cycles meets at most one phase. -/
theorem State.accounting_eq {s : State} (hs : s.NmiTimerOk) (hc : s.cpu.cycles ≤ 7) :
    s.addCycles.nmiTimer.grantCredit = s.accounted := by
  have hlater := hs.later
  by_cases hdue : s.sched.nmiPhase ≤ s.cpu.cycleCount + s.cpu.cycles
  · have hlate : s.cpu.cycleCount + s.cpu.cycles < s.sched.nmiPhase + Config.nmiPeriod := by
      rw [Config.nmiPeriod]; omega
    rw [State.nmiTimer_of_due (s := s.addCycles) hdue hlate, State.accounted, if_pos hdue, decide_eq_true hdue]
    rfl
  · have htimer : s.addCycles.nmiTimer = s.addCycles :=
      State.nmiLoop_of_lt (s := s.addCycles) (Nat.not_le.1 hdue) _
    rw [htimer, State.accounted, if_neg hdue, decide_eq_false hdue, Bool.or_false]
    rfl

theorem State.afterCpuStep_of_none {s : State} (hf : s.cpu.fault = none) :
    s.afterCpuStep = s.addCycles.nmiTimer.grantCredit.handOver := by
  simp [State.afterCpuStep, hf]

/-- A faulting step has no accounting (60_exceptions R400). -/
theorem State.afterCpuStep_of_fault {s : State} (hf : s.cpu.fault.isSome = true) : s.afterCpuStep = s := if_pos hf

theorem State.afterCpuStep_eq_accounted {s : State} (hf : s.cpu.fault = none) (hs : s.NmiTimerOk)
    (hc : s.cpu.cycles ≤ 7) : s.afterCpuStep = s.accounted.handOver := by
  rw [State.afterCpuStep_of_none hf, State.accounting_eq hs hc]

/-- Settles O58: the accounting field by field, then the three ways of the hand-over. -/
theorem afterCpuStep : Obligations.AfterCpuStep := by
  rintro s t hf hc hs rfl
  rw [State.afterCpuStep_eq_accounted hf hs hc]
  refine ⟨rfl, rfl, rfl, State.handOver_nmiPhase _, State.handOver_used _, State.handOver_budget _,
    State.handOver_segments _, State.handOver_pendingInputs _, State.handOver_vpCredit _, ?_⟩
  rw [State.handOver_vpReady, State.handOver_used, State.handOver_budget]
  rcases s.accounted.handOver_three with ⟨hr, h⟩ | ⟨hr, hlt, h⟩ | ⟨hr, hle, h⟩ <;> rw [hr, h]
  · exact ⟨fun _ => ⟨rfl, rfl, rfl⟩, fun hn => Bool.noConfusion hn⟩
  · exact ⟨fun hn => Bool.noConfusion hn, fun _ => ⟨rfl, fun _ => ⟨rfl, rfl⟩, fun hle => absurd hlt (Nat.not_lt.2 hle)⟩⟩
  · exact ⟨fun hn => Bool.noConfusion hn, fun _ => ⟨rfl, fun hlt => absurd hlt (Nat.not_lt.2 hle), fun _ => ⟨rfl, rfl⟩⟩⟩

/-! The timer's invariant. -/

theorem State.NmiTimerOk.congr {s t : State} (hs : s.NmiTimerOk) (hc : t.cpu.cycleCount = s.cpu.cycleCount)
    (hp : t.sched.nmiPhase = s.sched.nmiPhase) : t.NmiTimerOk := by
  constructor <;> rw [hp]
  · exact hc ▸ hs.later
  · exact hc ▸ hs.soon
  · exact hs.multiple

/-- A total that reaches the phase moves it on by one period. -/
theorem State.accounted_nmiTimerOk {s : State} (hs : s.NmiTimerOk) (hc : s.cpu.cycles ≤ 7) :
    s.accounted.NmiTimerOk := by
  obtain ⟨hlater, hsoon, hmultiple⟩ := hs
  simp only [Config.nmiPeriod] at hsoon hmultiple
  constructor <;> simp only [State.accounted, Config.nmiPeriod] <;> split <;> omega

theorem State.afterCpuStep_nmiTimerOk {s : State} (hs : s.NmiTimerOk) (hc : s.cpu.cycles ≤ 7) :
    s.afterCpuStep.NmiTimerOk := by
  rcases hf : s.cpu.fault with _ | f
  · rw [State.afterCpuStep_eq_accounted hf hs hc]
    exact (State.accounted_nmiTimerOk hs hc).congr rfl (State.handOver_nmiPhase _)
  · rwa [State.afterCpuStep_of_fault (hf ▸ rfl)]

@[simp] theorem State.beginFrame_nmiPhase (s : State) : s.beginFrame.sched.nmiPhase = s.sched.nmiPhase := by
  rcases s.beginFrame_cases with ⟨-, h⟩ | ⟨-, _, _, h⟩ <;> rw [h]; rfl

@[simp] theorem State.afterVpInstr_nmiPhase (s : State) (c : Nat) :
    (s.afterVpInstr c).sched.nmiPhase = s.sched.nmiPhase := by
  simp [State.afterVpInstr]

/-- Settles O14: a CPU step counts no cycles of its own, its accounting keeps the phase ahead, and the Vector Processor
has no part in the timer. -/
theorem stepKeepsNmiTimerOk : Obligations.StepKeepsNmiTimerOk := by
  intro s t hs h
  obtain ⟨-, ⟨-, u, hu, rfl⟩ | ⟨-, u, hu, rfl⟩⟩ := step_cases h
  · have hk := cpuStep_keeps hu
    have hbegin : s.beginFrame.NmiTimerOk := hs.congr (by rw [State.beginFrame_cpu]) s.beginFrame_nmiPhase
    exact State.afterCpuStep_nmiTimerOk (hbegin.congr hk.cycleCount (by rw [hk.sched])) hk.most
  · have hk := exec_vpFrame s.vpFetch_isa hu
    refine hs.congr ?_ ?_
    · rw [State.afterVpInstr_cpu, hk.cpu]
    · rw [State.afterVpInstr_nmiPhase, hk.sched]

end Sys2Proof.Machine

/-! Interrupt entries, the decode fault and the decoded instruction: O5, O7, O8 and O57. -/

namespace Sys2Proof.Machine

/-! The poll (60_exceptions R411). -/

theorem cpuStep_of_nmi {s : State} (hn : s.cpu.nmiPending = true) :
    cpuStep s = .next ((s.setNmi false).interruptEntry nmiVector) := by
  simp [cpuStep, State.pollInterrupt, hn]

theorem cpuStep_of_irq {s : State} (hn : s.cpu.nmiPending = false) (hq : s.cpu.irqPending = true)
    (hi : s.cpu.p.i = false) : cpuStep s = .next ((s.setIrq false).interruptEntry irqVector) := by
  simp [cpuStep, State.pollInterrupt, hn, hq, hi]

theorem cpuStep_of_no_interrupt {s : State} (hn : s.cpu.nmiPending = false)
    (hq : s.cpu.irqPending = false ∨ s.cpu.p.i = true) : cpuStep s = cpuInstruction s := by
  rcases hq with h | h <;> simp [cpuStep, State.pollInterrupt, hn, h]

/-! What an interrupt entry makes (60_exceptions R413). -/

/-- A state that differs from the first in the CPU's registers only holds the same pushed bytes over it. -/
theorem State.Pushed.of_source {s s' t : State} {l : List (Word × Byte)} (h : s.Pushed t l) (hb : s'.bus = s.bus)
    (hv : s'.vp = s.vp) (hc : s'.cpu.cycleCount = s.cpu.cycleCount) : s'.Pushed t l := by
  obtain ⟨hback, helse, hbus, hvp⟩ := h
  have hread (a : Word) : s'.read a = s.read a :=
    State.read_congr (by rw [hb]) (by rw [hb]) (by rw [hb]) (by rw [hb]) (by rw [hb]) (by rw [hb]) hc (by rw [hv]) a
  exact ⟨hback, fun b hp => (helse b fun p hm => hb ▸ hp p hm).trans (hread b).symm, hb ▸ hbus, hv ▸ hvp⟩

/-- The entry through one of the vectors: the CPU it leaves, and the three bytes it pushes. -/
theorem State.interruptEntry_spec {s : State} (hs : s.MemoryCanonical) {vec : Word} {k : Nat} (hk : k < 5)
    (hvec : vec = BitVec.ofNat 16 (0xFFFA + k)) :
    (s.interruptEntry vec).sched = s.sched ∧
    (s.interruptEntry vec).cpu = { s.cpu with
      s := s.cpu.s - 3, p := { s.cpu.p with i := true }, pc := w16 (s.read vec) (s.read (vec + 1)), cycles := 7 } ∧
    s.Pushed (s.interruptEntry vec) [(stackAddr s.cpu.s, hi s.cpu.pc), (stackAddr (s.cpu.s - 1), lo s.cpu.pc),
      (stackAddr (s.cpu.s - 2), s.cpu.p.pack false)] := by
  obtain ⟨-, -, hsched, -⟩ := s.enterVector_frame s.cpu.pc false vec
  have hcpu := State.enterVector_cpu hs.1 s.cpu.pc false hk
  rw [← hvec] at hcpu
  exact ⟨hsched, congrArg (fun c : CpuState => { c with cycles := 7 }) hcpu,
    (State.enterVector_pushed hs s.cpu.pc false vec).congr (fun _ => Iff.rfl) rfl rfl rfl⟩

/-! No Bus read sees the interrupt requests. -/

@[simp] theorem State.setNmi_read (s : State) (b : Bool) (a : Word) : (s.setNmi b).read a = s.read a :=
  State.read_congr rfl rfl rfl rfl rfl rfl rfl rfl a

@[simp] theorem State.setIrq_read (s : State) (b : Bool) (a : Word) : (s.setIrq b).read a = s.read a :=
  State.read_congr rfl rfl rfl rfl rfl rfl rfl rfl a

/-- Settles O7: each entry from the state with its own request cleared. -/
theorem interruptEntry : Obligations.InterruptEntry := by
  intro s hs
  refine ⟨fun hn => ?_, fun hn hq hi => ?_, cpuStep_of_no_interrupt⟩
  · have hclear : (s.setNmi false).MemoryCanonical := hs.congr rfl
    obtain ⟨hsched, hcpu, hpushed⟩ := State.interruptEntry_spec hclear (vec := nmiVector) (k := 0) (by decide) rfl
    rw [State.setNmi_read, State.setNmi_read] at hcpu
    exact ⟨_, cpuStep_of_nmi hn, hsched, hcpu, hpushed.of_source rfl rfl rfl⟩
  · have hclear : (s.setIrq false).MemoryCanonical := hs.congr rfl
    obtain ⟨hsched, hcpu, hpushed⟩ := State.interruptEntry_spec hclear (vec := irqVector) (k := 4) (by decide) rfl
    rw [State.setIrq_read, State.setIrq_read] at hcpu
    exact ⟨_, cpuStep_of_irq hn hq hi, hsched, hcpu, hpushed.of_source rfl rfl rfl⟩

/-! The step on the CPU's turn. -/

theorem step_of_cpuStep {s u : State} (hf : s.cpu.fault = none) (ht : s.sched.turn = .cpu)
    (hu : cpuStep s.beginFrame = .next u) : step s = .next u.afterCpuStep := by
  simp only [step, hf, ht, cpuTurn, hu]

/-- An interrupt to take or not is read off the CPU, which the beginning of a frame leaves alone. -/
theorem cpuStep_beginFrame {s : State} (hn : s.cpu.nmiPending = false)
    (hq : s.cpu.irqPending = false ∨ s.cpu.p.i = true) : cpuStep s.beginFrame = cpuInstruction s.beginFrame := by
  rw [← s.beginFrame_cpu] at hn hq
  exact cpuStep_of_no_interrupt hn hq

/-- Settles O5. -/
theorem cpuStepRunsDecoded : Obligations.CpuStepRunsDecoded := by
  intro s i rest hf ht hn hq hdecode
  obtain ⟨hram, hvram, hrom, -, hmap⟩ := s.beginFrame_stores
  obtain ⟨t, hexec⟩ := exec_total i s.beginFrame
  have hinstr : cpuInstruction s.beginFrame = exec i s.beginFrame := by simp only [cpuInstruction, hdecode]
  refine ⟨Instr.wellFormed_iff.2 (fetch_isa hdecode), State.beginFrame_of_open, s.beginFrame_cpu, s.beginFrame_vp, hmap,
    hram, hvram, hrom, t, hexec, step_of_cpuStep hf ht ?_⟩
  rw [cpuStep_beginFrame hn hq, hinstr, hexec]

/-! The decode fault (60_exceptions R400). -/

theorem cpuInstruction_of_illegal {s : State} (h : s.read s.cpu.pc ∈ illegalOpcodes) :
    cpuInstruction s = .next s.raiseDecodeFault := by
  rw [mem_illegalOpcodes_iff] at h
  rcases decodeCpu_three (s.read s.cpu.pc) (s.read (s.cpu.pc + 1)) (s.read (s.cpu.pc + 2)) with ⟨-, hd⟩ | ⟨hsome, -⟩
  · simp only [cpuInstruction, decode, State.fetchBytes, hd]
  · exact absurd h hsome

theorem step_of_fault {s : State} {f : FaultInfo} (hf : s.cpu.fault = some f) :
    step s = .fault (.decodeFault f.pc f.op) := by
  simp only [step, hf]

/-- A turn of the loop whose CPU step faults ends at once. -/
theorem iteration_of_fault {s u : State} (hu : cpuStep s = .next u) (hf : u.cpu.fault.isSome = true) :
    iteration s = .next u := by
  simp only [iteration, hu, hf, if_true]

theorem frameLoop_of_fault {s t : State} (hlt : s.sched.used < s.sched.budget) (ht : iteration s = .next t)
    (hf : t.cpu.fault.isSome = true) (n : Nat) : frameLoop (n + 1) s = .next t := by
  simp only [frameLoop, hlt, ht, hf, if_true]

/-- Settles O8: the frame that begins leaves the CPU alone, so the record is of the CPU's own program counter. -/
theorem decodeFault : Obligations.DecodeFault := by
  rintro s op hf ht hn hq rfl hop
  rw [← s.beginFrame_cpu] at hop
  have hstep : cpuStep s.beginFrame = .next s.beginFrame.raiseDecodeFault :=
    (cpuStep_beginFrame hn hq).trans (cpuInstruction_of_illegal hop)
  have hsome : s.beginFrame.raiseDecodeFault.cpu.fault.isSome = true := rfl
  refine ⟨s.beginFrame.raiseDecodeFault, ?_, ?_, ?_, fun n hlt => ?_⟩
  · simp only [State.raiseDecodeFault, State.setFault, State.setCycles, State.beginFrame_cpu]
  · rw [step_of_cpuStep hf ht hstep, State.afterCpuStep_of_fault hsome]
  · rw [← s.beginFrame_cpu]
    exact step_of_fault (s := s.beginFrame.raiseDecodeFault) rfl
  · exact frameLoop_of_fault hlt (iteration_of_fault hstep hsome) hsome n

/-! A HALT and the interrupt that it requests (60_exceptions R410, R416). -/

theorem step_of_vp {s u : State} (hf : s.cpu.fault = none) (ht : s.sched.turn = .vp) (hu : exec s.vpFetch s = .next u) :
    step s = .next (u.afterVpInstr s.vpCost) := by
  simp only [step, hf, ht, vpTurn, hu]

theorem State.vpReady_of_halted {s : State} (h : s.vp.halted = true) : s.vpReady = false := by
  simp [State.vpReady, h]

theorem State.handOver_turn_of_halted {s : State} (h : s.vp.halted = true) : s.handOver.sched.turn = .cpu := by
  rw [State.handOver, State.vpReady_of_halted h]
  exact SchedState.close_turn _

/-- After an instruction that halts, the CPU has the turn and no credit is left. -/
theorem State.afterVpInstr_of_halted {s : State} (h : s.vp.halted = true) (cost : Nat) :
    (s.afterVpInstr cost).sched.turn = .cpu ∧ (s.afterVpInstr cost).sched.vpCredit = 0 :=
  ⟨State.handOver_turn_of_halted (s := s.setSched _) h, (State.handOver_vpCredit _).trans (if_pos h)⟩

/-- Settles O57: the HALT raises the line, and the poll of the next step sees it behind an NMI only. -/
theorem haltThenInterrupt : Obligations.HaltThenInterrupt := by
  intro s u hf ht hi hhalt
  have hexec : exec s.vpFetch s = .next (haltStep s) := by rw [hhalt]; rfl
  obtain ⟨hturn, hcredit⟩ := State.afterVpInstr_of_halted (s := haltStep s) rfl s.vpCost
  refine ⟨_, step_of_vp hf ht hexec, hturn, hcredit, rfl, rfl, rfl, fun hn => ?_, fun hn => ?_⟩
  · refine step_of_cpuStep hf hturn (cpuStep_of_nmi ?_)
    rw [State.beginFrame_cpu]
    exact hn
  · refine step_of_cpuStep hf hturn (cpuStep_of_irq ?_ ?_ ?_) <;> rw [State.beginFrame_cpu]
    · exact hn
    · rfl
    · exact hi

end Sys2Proof.Machine

/-! The steps of the machine against the Scheduler's loop: O59 and O60. -/

namespace Sys2Proof.Machine

/-! What the Vector Processor's quantum leaves alone (60_exceptions R430). -/

theorem VpFrame.refl (s : State) : VpFrame s s := ⟨rfl, rfl, rfl, List.prefix_rfl⟩

theorem VpFrame.trans {s t u : State} (h : VpFrame s t) (h' : VpFrame t u) : VpFrame s u := by
  obtain ⟨hbus, hcpu, hsched, hseg⟩ := h
  obtain ⟨hbus', hcpu', hsched', hseg'⟩ := h'
  refine ⟨hbus'.trans hbus, ?_, ?_, hseg.trans hseg'⟩
  · rw [hcpu', hcpu]
  · rw [hsched', hsched]

theorem VpFrame.fault {s t : State} (h : VpFrame s t) : t.cpu.fault = s.cpu.fault := by rw [h.cpu]
theorem VpFrame.turn {s t : State} (h : VpFrame s t) : t.sched.turn = s.sched.turn := by rw [h.sched]

theorem vpRun_frame (b : Nat) (s : State) : VpFrame s (vpRun b s).2 := by
  induction b, s using vpRun_induction with
  | stop b s hstop => rw [vpRun_stop hstop]; exact VpFrame.refl s
  | step b s t hrun hfits ht ih => rw [vpRun_of_exec hrun hfits ht]; exact (exec_vpFrame s.vpFetch_isa ht).trans ih

/-- The credit that is left when `c` of it is: a halted Vector Processor loses it (60_exceptions R430). -/
def State.leaveCredit (s : State) (c : Nat) : State :=
  s.setSched { s.sched with vpCredit := if s.vp.halted then 0 else c }

theorem State.afterVpInstr_eq (s : State) (cost : Nat) :
    s.afterVpInstr cost = (s.leaveCredit (s.sched.vpCredit - cost)).handOver := rfl

theorem State.vpQuantum_of_halted {s : State} (h : s.vp.halted = true) : s.vpQuantum = s := if_pos h

theorem State.vpQuantum_of_running {s : State} (h : s.vp.halted = false) :
    s.vpQuantum = (vpRun s.sched.vpCredit s).2.leaveCredit (s.sched.vpCredit - (vpRun s.sched.vpCredit s).1) := by
  rw [State.vpQuantum, h]
  rfl

/-- The quantum changes the interrupt line, the segments and the credit of what the loop's turn reads. -/
theorem State.vpQuantum_frame (s : State) :
    s.vpQuantum.cpu.fault = s.cpu.fault ∧
    s.vpQuantum.sched = { s.sched with
      segments := s.vpQuantum.sched.segments, vpCredit := s.vpQuantum.sched.vpCredit } := by
  rcases h : s.vp.halted with _ | _
  · have hframe := vpRun_frame s.sched.vpCredit s
    rw [State.vpQuantum_of_running h]
    refine ⟨hframe.fault, ?_⟩
    simp only [State.leaveCredit, State.setSched_sched]
    rw [hframe.sched]
  · rw [State.vpQuantum_of_halted h]
    exact ⟨rfl, rfl⟩

/-! The steps of a quantum (46_vector_processor R341). -/

/-- A hand-over to the CPU, which had the turn, is the frame's end. -/
theorem State.handOver_of_idle {s : State} (ht : s.sched.turn = .cpu) (hr : s.vpReady = false) :
    s.handOver = s.closeFrame := by
  rcases s.handOver_cases with ⟨hready, -⟩ | ⟨-, h⟩
  · rw [hr] at hready; exact Bool.noConfusion hready
  · rw [h, ← ht]; rfl

/-- A Vector Processor whose run would stop is not ready. -/
theorem State.vpReady_leaveCredit_of_stop {s : State} {b : Nat} (h : s.vp.halted = true ∨ b < s.vpCost) :
    (s.leaveCredit b).vpReady = false := by
  rcases hh : s.vp.halted with _ | _
  · have hlt : b < s.vpCost := h.resolve_left (Bool.eq_false_iff.1 hh)
    simp [State.vpReady, State.leaveCredit, hh, hlt]
  · exact State.vpReady_of_halted hh

/-- One whose next instruction fits gets the turn. -/
theorem State.handOver_leaveCredit_of_fits {s : State} {b : Nat} (hrun : s.vp.halted = false) (hfits : s.vpCost ≤ b) :
    (s.leaveCredit b).handOver = s.withCredit b .vp := by
  have hready : (s.leaveCredit b).vpReady = true := by simp [State.vpReady, State.leaveCredit, hrun, hfits]
  rw [State.handOver, hready, State.leaveCredit, hrun]
  rfl

/-- With the turn and credit for it, the Vector Processor makes a step of one instruction and its charge. -/
theorem step_withCredit {s t : State} (hf : s.cpu.fault = none) (h : exec s.vpFetch s = .next t) (b : Nat) :
    step (s.withCredit b .vp) = .next ((t.leaveCredit (b - s.vpCost)).handOver) :=
  step_of_vp (s := s.withCredit b .vp) hf rfl (exec_withCredit s.vpFetch_isa h b .vp)

/-- From the hand-over at which `b` of the credit is left, the steps make the run with budget `b`, its charge and the
frame's end. -/
theorem steps_of_vpRun (b : Nat) (s : State) (hf : s.cpu.fault = none) (ht : s.sched.turn = .cpu) :
    ∃ n, steps n (s.leaveCredit b).handOver =
      .next ((vpRun b s).2.leaveCredit (b - (vpRun b s).1)).closeFrame := by
  induction b, s using vpRun_induction with
  | stop b s hstop =>
    have hidle := State.handOver_of_idle (s := s.leaveCredit b) ht (State.vpReady_leaveCredit_of_stop hstop)
    exact ⟨0, by rw [vpRun_stop hstop, hidle]; rfl⟩
  | step b s t hrun hfits hexec ih =>
    have hframe := exec_vpFrame s.vpFetch_isa hexec
    obtain ⟨n, hn⟩ := ih (hframe.fault.trans hf) (hframe.turn.trans ht)
    rw [vpRun_of_exec hrun hfits hexec, State.handOver_leaveCredit_of_fits hrun hfits]
    refine ⟨n + 1, (steps_succ (step_withCredit hf hexec b) n).trans ?_⟩
    rw [hn, Nat.sub_sub]

/-- From a hand-over at the CPU's turn, the steps make the quantum and the frame's end. -/
theorem steps_of_vpQuantum {s : State} (hf : s.cpu.fault = none) (ht : s.sched.turn = .cpu) :
    ∃ n, steps n s.handOver = .next s.vpQuantum.closeFrame := by
  rcases h : s.vp.halted with _ | _
  · have hcredit : s.leaveCredit s.sched.vpCredit = s := by rw [State.leaveCredit, h]; rfl
    have hrun := steps_of_vpRun s.sched.vpCredit s hf ht
    rwa [hcredit, ← State.vpQuantum_of_running h] at hrun
  · rw [State.vpQuantum_of_halted h]
    exact ⟨0, congrArg Host.Outcome.next (State.handOver_of_idle ht (State.vpReady_of_halted h))⟩

/-! One turn of the loop. -/

theorem iteration_of_none {s u : State} (hu : cpuStep s = .next u) (hf : u.cpu.fault = none) :
    iteration s = .next u.addCycles.nmiTimer.grantCredit.vpQuantum := by
  simp [iteration, hu, hf]

/-- The accounting of a CPU step leaves the fault register and the turn, the budget and the open frame. -/
theorem State.accounting_frame (s : State) :
    s.addCycles.nmiTimer.grantCredit.cpu.fault = s.cpu.fault ∧
    ∃ k c, s.addCycles.nmiTimer.grantCredit.sched =
      { s.sched with used := s.sched.used + s.cpu.cycles, nmiPhase := k, vpCredit := c } := by
  obtain ⟨b, k, h⟩ := s.addCycles.nmiTimer_frame
  rw [h]
  exact ⟨rfl, _, _, rfl⟩

@[simp] theorem State.beginFrame_turn (s : State) : s.beginFrame.sched.turn = s.sched.turn := by
  rcases s.beginFrame_cases with ⟨-, h⟩ | ⟨-, _, _, h⟩ <;> rw [h]; rfl

/-- Settles O59: the CPU step is the first step, and the hand-over after its accounting begins those of the quantum. -/
theorem stepsRefineIteration : Obligations.StepsRefineIteration := by
  intro s t hf ht hiter
  obtain ⟨u, hu, hk, -⟩ := cpuStep_next s.beginFrame
  have hstep := step_of_cpuStep hf ht hu
  rcases hfault : u.cpu.fault with _ | f
  · obtain ⟨hfault', k, c, hsched⟩ := u.accounting_frame
    have hturn : u.addCycles.nmiTimer.grantCredit.sched.turn = .cpu := by
      rw [hsched, hk.sched]
      exact s.beginFrame_turn.trans ht
    obtain ⟨n, hn⟩ := steps_of_vpQuantum (hfault'.trans hfault) hturn
    obtain rfl := Host.Outcome.next.inj (hiter.symm.trans (iteration_of_none hu hfault))
    rw [(State.vpQuantum_frame _).1, hfault', hfault]
    rw [State.afterCpuStep_of_none hfault] at hstep
    exact ⟨n, (steps_succ hstep n).trans hn⟩
  · have hsome : u.cpu.fault.isSome = true := hfault ▸ rfl
    obtain rfl := Host.Outcome.next.inj (hiter.symm.trans (iteration_of_fault hu hsome))
    rw [State.afterCpuStep_of_fault hsome] at hstep
    exact ⟨0, by rw [if_pos hsome]; exact steps_succ hstep 0⟩

/-! The whole frame. -/

/-- A turn of the loop faults, or uses at least two cycles of the same frame. -/
theorem iteration_next (s : State) : ∃ t, iteration s = .next t ∧
    (t.cpu.fault.isSome = true ∨
      (t.cpu.fault = none ∧ t.sched.turn = s.sched.turn ∧ t.sched.frameOpen = s.sched.frameOpen ∧
        t.sched.budget = s.sched.budget ∧ s.sched.used + 2 ≤ t.sched.used)) := by
  obtain ⟨u, hu, hk, hcase⟩ := cpuStep_next s
  rcases hfault : u.cpu.fault with _ | f
  · have hleast : 2 ≤ u.cpu.cycles := by
      rcases hcase with ⟨-, h⟩ | ⟨-, -, rfl⟩
      · exact h
      · cases hfault
    obtain ⟨hfault', k, c, hsched⟩ := u.accounting_frame
    obtain ⟨hquantum, hqsched⟩ := u.addCycles.nmiTimer.grantCredit.vpQuantum_frame
    refine ⟨_, iteration_of_none hu hfault, .inr ⟨(hquantum.trans hfault').trans hfault, ?_⟩⟩
    rw [hqsched, hsched, hk.sched]
    exact ⟨rfl, rfl, rfl, Nat.add_le_add_left hleast _⟩
  · have hsome : u.cpu.fault.isSome = true := hfault ▸ rfl
    exact ⟨u, iteration_of_fault hu hsome, .inl hsome⟩

theorem steps_add {n : Nat} {s t : State} (h : steps n s = .next t) (m : Nat) : steps (n + m) s = steps m t := by
  induction n generalizing s with
  | zero => rw [Nat.zero_add, Host.Outcome.next.inj h]
  | succ n ih =>
    rcases hs : step s with u | r | r <;> simp only [steps, hs] at h
    · rw [Nat.succ_add, steps_succ hs]
      exact ih h
    · cases h
    · cases h

theorem State.closeFrame_of_lt {s : State} (h : s.sched.used < s.sched.budget) : s.closeFrame = s := by
  rw [State.closeFrame, SchedState.close, if_pos h]; rfl

theorem frameLoop_of_none {s t : State} (hlt : s.sched.used < s.sched.budget) (ht : iteration s = .next t)
    (hf : t.cpu.fault = none) (n : Nat) : frameLoop (n + 1) s = frameLoop n t := by
  simp [frameLoop, hlt, ht, hf]

theorem frameLoop_of_used {s : State} (h : s.sched.budget ≤ s.sched.used) (n : Nat) :
    frameLoop (n + 1) s = .next s.closeFrame := if_neg (Nat.not_lt.2 h)

/-- In an open frame with fuel for its cycles, the steps make the rest of the loop. -/
theorem steps_of_frameLoop (fuel : Nat) {s : State} (hf : s.cpu.fault = none) (ht : s.sched.turn = .cpu)
    (ho : s.sched.frameOpen = true) (hlt : s.sched.used < s.sched.budget)
    (hfuel : s.sched.budget < s.sched.used + fuel) :
    ∃ n t, frameLoop fuel s = .next t ∧ steps (n + 1) s = .next t := by
  induction fuel generalizing s with
  | zero => omega
  | succ fuel ih =>
    obtain ⟨t, hiter, hcase⟩ := iteration_next s
    obtain ⟨n, hn⟩ := stepsRefineIteration s t hf ht ((State.beginFrame_of_open ho).symm ▸ hiter)
    rcases hcase with hsome | ⟨hnone, hturn, hopen, hbudget, hused⟩
    · exact ⟨n, t, frameLoop_of_fault hlt hiter hsome fuel, by rw [hn, if_pos hsome]⟩
    · rw [hnone] at hn
      rw [frameLoop_of_none hlt hiter hnone]
      by_cases hmore : t.sched.used < t.sched.budget
      · obtain ⟨m, v, hloop, hm⟩ := ih hnone (hturn.trans ht) (hopen.trans ho) hmore (by omega)
        refine ⟨n + 1 + m, v, hloop, (steps_add hn (m + 1)).trans ?_⟩
        rwa [State.closeFrame_of_lt hmore]
      · obtain ⟨fuel, rfl⟩ : ∃ k, fuel = k + 1 := ⟨fuel - 1, by omega⟩
        exact ⟨n, _, frameLoop_of_used (Nat.not_lt.1 hmore) fuel, hn⟩

/-- On the CPU's turn a step begins the frame by itself. -/
theorem steps_beginFrame {s : State} (hf : s.cpu.fault = none) (ht : s.sched.turn = .cpu) (n : Nat) :
    steps (n + 1) s.beginFrame = steps (n + 1) s := by
  have hbegun : s.beginFrame.beginFrame = s.beginFrame := State.beginFrame_of_open s.beginFrame_frameOpen
  have hstep : step s.beginFrame = step s := by
    simp only [step, State.beginFrame_cpu, State.beginFrame_turn, hf, ht, hbegun]
  simp only [steps, hstep]

/-- Settles O60: `advance_frame` begins the frame that the first step begins, and its loop is made of steps. -/
theorem frameIsRunOfSteps : Obligations.FrameIsRunOfSteps := by
  intro s inp rest hf ht hclosed hover hqueue
  have hbegin : s.beginFrame = (s.setSched { s.sched with pendingInputs := rest }).openFrame inp := by
    simp [State.beginFrame, hclosed, hqueue]
  have hbudget : s.beginFrame.sched.budget = 25200 - s.sched.frameOvershoot := by rw [hbegin]; rfl
  have hused : s.beginFrame.sched.used = 0 := by rw [hbegin]; rfl
  obtain ⟨n, t, hloop, hn⟩ := steps_of_frameLoop (s.beginFrame.sched.budget + 1) (s := s.beginFrame)
    (by rw [State.beginFrame_cpu]; exact hf) (s.beginFrame_turn.trans ht) s.beginFrame_frameOpen (by omega) (by omega)
  refine ⟨n, t, ?_, (steps_beginFrame hf ht n).symm.trans hn⟩
  rw [advanceFrame, ← hbegin]
  exact hloop

end Sys2Proof.Machine

/-! The cycles that an instruction returns: O53. The classes of 70_reset_and_hazards R471 are those of the shared
operations, so each class has one equation of `exec` and one count. -/

namespace Sys2Proof.Machine

section
variable {i : Instr} {k : Mnemonic} {s t : State}

/-! The reads and their crossing penalty. -/

theorem exec_reads (s : State) {o : Operand} (hk : k.reads = true) (hv : i.view = .cpu k (.src o)) :
    ∃ f, exec i s = readOp f (readCycles o) o s := by
  cases k with
  | adc => exact ⟨_, exec_adc s hv⟩
  | sbc => exact ⟨_, exec_sbc s hv⟩
  | cmp => exact ⟨_, exec_cmp s hv⟩
  | cpx => exact ⟨_, exec_cpx s hv⟩
  | cpy => exact ⟨_, exec_cpy s hv⟩
  | and => exact ⟨_, exec_and s hv⟩
  | ora => exact ⟨_, exec_ora s hv⟩
  | eor => exact ⟨_, exec_eor s hv⟩
  | bit => exact ⟨_, exec_bit s hv⟩
  | lda => exact ⟨_, exec_lda s hv⟩
  | ldx => exact ⟨_, exec_ldx s hv⟩
  | ldy => exact ⟨_, exec_ldy s hv⟩
  | _ => cases hk

theorem reads_cycles {o : Operand} (hk : k.reads = true) (hv : i.view = .cpu k (.src o)) (h : exec i s = .next t) :
    t.cpu.cycles = readCycles o + s.readPenalty o := by
  obtain ⟨f, hf⟩ := exec_reads s hk hv
  rw [readOp_next (hf.symm.trans h), State.retire_cpu]

/-- An index that carries into the high byte crosses a page, also where the sum wraps (30_encoding R163). -/
theorem crossing_toNat (base : Word) (index : Byte) :
    (decide (hi (base + zext index) ≠ hi base)).toNat =
      if (base.toNat + index.toNat) % 65536 / 256 = base.toNat / 256 then 0 else 1 := by
  have hsum : (base + zext index).toNat = (base.toNat + index.toNat) % 65536 := by
    rw [BitVec.toNat_add, zext_toNat]
  by_cases hpage : hi (base + zext index) = hi base
  · rw [if_pos (hsum ▸ hi_eq_hi_iff.1 hpage), decide_eq_false (not_not_intro hpage)]
    rfl
  · rw [if_neg (hsum ▸ mt hi_eq_hi_iff.2 hpage), decide_eq_true hpage]
    rfl

theorem State.readPenalty_of_unindexed {m : MemMode} (h : s.effAddr m = s.baseAddr m) : s.readPenalty (.mem m) = 0 := by
  simp [State.readPenalty, State.crossed, h]

/-! The stores and the read-modify-writes, which take no penalty. -/

theorem exec_stores (s : State) {m : MemMode} (hk : k.stores = true) (hv : i.view = .cpu k (.src (.mem m))) :
    ∃ v, exec i s = storeOp v (storeCycles m) m s := by
  cases k with
  | sta => exact ⟨_, exec_sta s hv⟩
  | stx => exact ⟨_, exec_stx s hv⟩
  | sty => exact ⟨_, exec_sty s hv⟩
  | _ => cases hk

theorem stores_cycles {m : MemMode} (hk : k.stores = true) (hv : i.view = .cpu k (.src (.mem m)))
    (h : exec i s = .next t) : t.cpu.cycles = storeCycles m := by
  obtain ⟨v, hf⟩ := exec_stores s hk hv
  rw [storeOp_next (hf.symm.trans h), State.retire_cpu]

theorem exec_modifies (s : State) {m : MemMode} (hk : k.modifies = true) (hv : i.view = .cpu k (.src (.mem m))) :
    ∃ f c, modifyCycles m = some c ∧ exec i s = modifyMem f c m s := by
  cases k with
  | inc => exact ⟨_, exec_inc_mem s hv⟩
  | dec => exact ⟨_, exec_dec_mem s hv⟩
  | asl => exact ⟨_, exec_asl_mem s hv⟩
  | lsr => exact ⟨_, exec_lsr_mem s hv⟩
  | rol => exact ⟨_, exec_rol_mem s hv⟩
  | ror => exact ⟨_, exec_ror_mem s hv⟩
  | _ => cases hk

theorem modifies_cycles {m : MemMode} (hk : k.modifies = true) (hv : i.view = .cpu k (.src (.mem m)))
    (h : exec i s = .next t) : some t.cpu.cycles = modifyCycles m := by
  obtain ⟨f, c, hc, hf⟩ := exec_modifies s hk hv
  rw [modifyMem_next (hf.symm.trans h), State.retire_cpu, hc]

/-! The branches. -/

theorem branch_not_taken_cycles {off : Byte} (hv : i.view = .cpu k (.rel off)) (h : exec i s = .next t)
    (hb : branchTaken s.cpu.p k = some false) : t.cpu.cycles = 2 := by
  obtain ⟨b, hb', hexec⟩ := exec_branch s hv
  obtain rfl : b = false := Option.some.inj (hb'.symm.trans hb)
  cases hexec.symm.trans h
  rfl

theorem branch_taken_cycles {off : Byte} (hv : i.view = .cpu k (.rel off)) (h : exec i s = .next t)
    (hb : branchTaken s.cpu.p k = some true) :
    t.cpu.cycles = if t.cpu.pc.toNat / 256 = (s.cpu.pc.toNat + 2) % 65536 / 256 then 3 else 4 := by
  obtain ⟨b, hb', hexec⟩ := exec_branch s hv
  obtain rfl : b = true := Option.some.inj (hb'.symm.trans hb)
  rw [hexec, branchOp_taken rfl rfl] at h
  cases h
  rfl

/-! Every other instruction. -/

/-- The mode of JMP (abs). -/
def isIndirect : Mode → Bool
  | .ind _ => true
  | _ => false

/-- The instructions outside the four classes above, and the shifts of the accumulator, return a fixed count of their
mnemonic and, for JMP, of its mode. -/
theorem other_cycles {md : Mode} (hv : i.view = .cpu k md) (h : exec i s = .next t) (hreads : k.reads = false)
    (hstores : k.stores = false) (hbranches : k.branches = false) (hmodifies : k.modifies = true → md = .acc) :
    t.cpu.cycles = otherCycles k (isIndirect md) := by
  cases i with
  | aslAcc | lsrAcc | rolAcc | rorAcc =>
    cases hv
    rw [modifyAcc_next h]
    rfl
  | inx | iny | dex | dey | tax | tay | txa | tya | tsx | txs | pha | php | pla | plp
  | clc | sec | cli | sei | cld | sed | clv =>
    cases hv
    rw [impliedOp_next h]
    rfl
  | jmpAbs | jmpInd | jsr | rts | brk | rti | nop =>
    cases hv
    cases h
    rfl
  | incZp | incZpX | incAbs | incAbsX | decZp | decZpX | decAbs | decAbsX
  | aslZp | aslZpX | aslAbs | aslAbsX | lsrZp | lsrZpX | lsrAbs | lsrAbsX
  | rolZp | rolZpX | rolAbs | rolAbsX | rorZp | rorZpX | rorAbs | rorAbsX =>
    cases hv
    cases hmodifies rfl
  | staZp | staZpX | staAbs | staAbsX | staAbsY | staIndX | staIndY | stxZp | stxZpY | stxAbs | styZp | styZpX | styAbs =>
    cases hv
    cases hstores
  | bcc | bcs | beq | bmi | bne | bpl | bvc | bvs =>
    cases hv
    cases hbranches
  | vctr0 | vctr1 | vctr2 | vctr3 | vctr4 | vctr5 | vctr6 | vctr7 | vctr8 | vctr9 | labs | halt | jsrl | rtsl | jmpl
  | svec => cases hv
  | _ =>
    cases hv
    cases hreads

end

/-- Settles O53: the count of each class, where only the three modes that index a 16-bit base make a read's penalty. -/
theorem cycleTable : Obligations.CycleTable := by
  rintro i s t k md hv h
  refine ⟨?_, ?_, ?_, ?_, ?_⟩
  · rintro o rfl hk
    rw [reads_cycles hk hv h]
    congr 1
    rcases o with v | m
    · rfl
    · cases m with
      | absx w => exact crossing_toNat w s.cpu.x
      | absy w => exact crossing_toNat w s.cpu.y
      | indy p => exact crossing_toNat (s.zpPointer p) s.cpu.y
      | zp | zpx | zpy | abs | indx => exact State.readPenalty_of_unindexed rfl
  · rintro m rfl hk
    exact stores_cycles hk hv h
  · rintro m rfl hk
    exact modifies_cycles hk hv h
  · rintro off rfl
    exact ⟨branch_not_taken_cycles hv h, branch_taken_cycles hv h⟩
  · have hother := other_cycles hv h
    cases md <;> exact hother

end Sys2Proof.Machine
